-- ==== Sys2Proof/Word.lean ====
section
/-!
DEFINITION. The values of the block (00_scope.md R8): bytes and levels.
-/

namespace Sys2Proof

/-- A `Byte` is an unsigned 8-bit value; bit 7 is the most significant (R8). -/
abbrev Byte := BitVec 8

/-- A `Level` is 0 (low) or 1 (high) (R8): `false` is low and `true` is high. -/
abbrev Level := Bool

end Sys2Proof
end

