-- ==== Sys2Proof/Machine/Constants.lean ====
section
/-!
DEFINITION. The constants the source fixes (00_scope.md R6), each under the manual's name.
-/

namespace Sys2Proof.Machine

/-- `MAX_ROWS`. -/
def maxRows : Byte := 4

/-- `ROT[0..3]`, the row-offset table, as cells (index, entry): "four entries: 0x00, 0x40, 0x14, 0x54"
(R6, 20_memory.md R41). A constant, not state (10_state.md R34). An index not listed holds no byte. -/
def rot : List Host.Cell := [(0, 0x00), (1, 0x40), (2, 0x14), (3, 0x54)]

/-- `OPC_CLEAR`, base opcode of clear display. -/
def opcClear : Byte := 0x01
/-- `OPC_HOME`, base opcode of return home. -/
def opcHome : Byte := 0x02
/-- `OPC_ENTRY`, base opcode of entry mode set. -/
def opcEntry : Byte := 0x04
/-- `OPC_DISPCTL`, base opcode of display control. -/
def opcDispctl : Byte := 0x08
/-- `OPC_FUNCSET`, base opcode of function set. -/
def opcFuncset : Byte := 0x38
/-- `OPC_SETDDRAM`, base opcode of set DDRAM address. -/
def opcSetddram : Byte := 0x80

/-- `FLAG_D`, display-on. -/
def flagD : Byte := 0x04
/-- `FLAG_C`, cursor-on. -/
def flagC : Byte := 0x02
/-- `FLAG_B`, blink-on. -/
def flagB : Byte := 0x01

/-- `EM_INCREMENT`. -/
def emIncrement : Byte := 0x02
/-- `EM_DECREMENT`. -/
def emDecrement : Byte := 0x00
/-- `EM_SHIFT_RIGHT`. -/
def emShiftRight : Byte := 0x01
/-- `EM_SHIFT_LEFT`. -/
def emShiftLeft : Byte := 0x00

/-- `T_LOW`, µs after driving the clock low, before the rising edge. -/
def tLow : Nat := 1
/-- `T_HIGH`, µs with the clock high. -/
def tHigh : Nat := 1
/-- `T_SETTLE`, µs after the clock returns low. -/
def tSettle : Nat := 100
/-- `T_CMD`, µs after a display-control, entry-mode or function-set command. -/
def tCmd : Nat := 500
/-- `T_SLOW`, µs after clear and after home. -/
def tSlow : Nat := 2000
/-- `T_POWER`, µs of power stabilization in SETUP (500 ms). -/
def tPower : Nat := 500000

end Sys2Proof.Machine
end

