-- ==== Sys2Proof/Config.lean ====
section
/-!
DEFINITION. What the source leaves to the implementation (00_scope.md R7): the parameters, and the one free value.
-/

namespace Sys2Proof

/-- The configuration parameters of R7. They are fixed for the lifetime of a machine (10_state.md R28, R34);
State carries one `Config` and no step changes it, so that every statement over all states is a statement over
every configuration (DESIGN CHOICE, log 1). `COLS` is used by no rule and is left out (log 28). -/
structure Config where
  /-- `P_SEL`, the pin identifier of chip-select (R28). -/
  pinSel : Nat
  /-- `P_CLK`, the pin identifier of the clock (R28). -/
  pinClk : Nat
  /-- `P_DAT`, the pin identifier of data (R28). -/
  pinDat : Nat
  /-- `FS_DEFAULT`, 0x00 to 0x03: the character table of SETUP step 4 (R7, decision D10). -/
  fsDefault : BitVec 2
  /-- `SETTLE_PER_CYCLE`: whether `T_SETTLE` ends every clock cycle or only a byte's last (R7, decision D7). -/
  settlePerCycle : Bool
  /-- `ALLOW_REINIT`: whether SETUP has a meaning when the block is not Uninitialized (R7, decision D12). -/
  allowReinit : Bool
deriving DecidableEq, Repr

/-- The pins are pairwise distinct; otherwise violation V8 (60_exceptions.md R163). -/
def Config.pinsDistinct (c : Config) : Bool :=
  c.pinSel != c.pinClk && c.pinSel != c.pinDat && c.pinClk != c.pinDat

/-- The defaults of R7. R7 gives no default for the pins: DESIGN CHOICE 0, 1, 2 (unsafe, log 2). -/
def Config.default : Config where
  pinSel := 0
  pinClk := 1
  pinDat := 2
  fsDefault := 0
  settlePerCycle := true
  allowReinit := false

/-- `ROW4_OFFSET`, the FREE VALUE of R7 and 20_memory.md R41: what the n-th read of the row-offset table at
index 4 returns. "fresh at each use", "any 8-bit value": State's counter `draws` supplies n (safe, log 8). -/
opaque Config.row4Offset : Nat → Byte

end Sys2Proof
end

