-- ==== Sys2Proof/Syntax.lean ====
section
/-!
DEFINITION. The instructions: one constructor per row of spec/opcode_table.json, in the table's order, and the words
they are read from.
-/

namespace Sys2Proof

/-- The rows of the opcode table (30_encoding.md R78): the 13 host operations (`HOSTREQ20`, R72), the 6 command-byte
families (`CMD8`, R65) and the 2 frame kinds (`FRAME10`, R61). Operands carry the width their encoding gives them;
operand fields that R72 calls ignored are not part of an instruction. -/
inductive Instr where
  /-- SETUP, `setup()` (R142). -/
  | setup
  /-- CLEAR, `clear()` (R140). -/
  | clear
  /-- HOME, `home()` (R141). -/
  | home
  /-- DISPLAY_ON, `displayOn()` (R113). -/
  | displayOn
  /-- DISPLAY_OFF, `displayOff()` (R114). -/
  | displayOff
  /-- CURSOR_ON, `cursorOn()` (R115). -/
  | cursorOn
  /-- CURSOR_OFF, `cursorOff()` (R116). -/
  | cursorOff
  /-- BLINK_ON, `blinkOn()` (R117). -/
  | blinkOn
  /-- BLINK_OFF, `blinkOff()` (R118). -/
  | blinkOff
  /-- SET_CURSOR, `setCursor(col, row)` (R130). -/
  | setCursor (col row : Byte)
  /-- SET_ENTRY_MODE, `setEntryMode(flags)` (R119). -/
  | setEntryMode (flags : Byte)
  /-- SET_FUNCTION_SET, `setFunctionSet(flags)` (R120). -/
  | setFunctionSet (flags : Byte)
  /-- WRITE, `write(character)` (R150). -/
  | write (character : Byte)
  /-- CMD_CLEAR_DISPLAY, command byte 0x01 (R65). -/
  | cmdClearDisplay
  /-- CMD_RETURN_HOME, command byte 0x02 (R65). -/
  | cmdReturnHome
  /-- CMD_ENTRY_MODE_SET, command byte 0x04 OR'd with flags (R65, R66). -/
  | cmdEntryModeSet (increment shiftRight : Bool)
  /-- CMD_DISPLAY_CONTROL, command byte 0b00001DCB (R22). -/
  | cmdDisplayControl (d c b : Bool)
  /-- CMD_FUNCTION_SET, command byte 0x38 OR'd with the table select (R65, R66). -/
  | cmdFunctionSet (table : BitVec 2)
  /-- CMD_SET_DDRAM_ADDRESS, command byte 0x80 OR'd with the address's low 7 bits (R65, R66). -/
  | cmdSetDdramAddress (address : BitVec 7)
  /-- FRAME_COMMAND, the frame `0,0,v[7..0]` (R61). -/
  | frameCommand (v : Byte)
  /-- FRAME_DATA, the frame `1,0,v[7..0]` (R61). -/
  | frameData (v : Byte)
deriving DecidableEq, Repr

/-- A word at one of the block's three encoding layers (30_encoding.md R60): a 20-bit host request (R71), a command
byte at the frame encoder (R65), or a 10-bit frame numbered with position 0 as bit 9 (R62). -/
inductive Request where
  | host (w : BitVec 20)
  | command (w : BitVec 8)
  | frame (w : BitVec 10)
deriving DecidableEq, Repr

/-- The request comes from the host: only layer 1 is issuable from outside (R2). -/
def Request.isHost : Request → Bool
  | .host _ => true
  | .command _ => false
  | .frame _ => false

end Sys2Proof
end

