-- ==== Sys2Proof/Machine/State.lean ====
section
/-!
DEFINITION. The state of the block as plain data (10_state.md R20), its stops and its reset value (R35).
-/

namespace Sys2Proof.Machine

/-- A pin: chip-select, clock, data (00_scope.md R8). -/
inductive Pin where
  | sel
  | clk
  | dat
deriving DecidableEq, Repr

/-- A transaction's mode, "a two-valued tag, COMMAND or DATA" (41_frame_encoder.md R100). -/
inductive TxMode where
  | command
  | data
deriving DecidableEq, Repr

/-- What the block does to the outside (00_scope.md R9). -/
inductive Event where
  /-- `Mode(p)`: configure pin p as an output. -/
  | mode (p : Pin)
  /-- `Drive(p, l)`: drive pin p to level l. -/
  | drive (p : Pin) (l : Level)
  /-- `Wait(n)`: hold every pin as it is for at least n microseconds. -/
  | wait (n : Nat)
deriving DecidableEq, Repr

/-- One value per pin: `OE[p]`, `LVL[p]` (10_state.md R26, R27). -/
structure PerPin (α : Type) where
  sel : α
  clk : α
  dat : α
deriving DecidableEq, Repr

/-- The display-control register `DCR`: three independent flags (10_state.md R21). -/
structure Dcr where
  /-- display-on -/
  d : Bool
  /-- cursor-on -/
  c : Bool
  /-- blink-on -/
  b : Bool
deriving DecidableEq, Repr

/-- One of the three flags of `DCR` (42_display_register_state.md R111). -/
inductive DcrFlag where
  | d
  | c
  | b
deriving DecidableEq, Repr

/-- The initialization state `INIT`; the values stay symbolic (10_state.md R24). -/
inductive Init where
  | uninitialized
  | initializing
  | ready
deriving DecidableEq, Repr

/-- The sequencer position `SEQ` (10_state.md R29): `Idle`, or `Busy(op, k)` with k the index of the next event of the
operation's trace T. T is a function of the state at acceptance, so it is held beside k. -/
inductive Seq where
  | idle
  | busy (op : Instr) (k : Nat) (events : List Event)
deriving DecidableEq, Repr

/-- The contract violations the model records and goes on from (60_exceptions.md R162, R163). V5 cannot be evaluated
and is never recorded (decision D16); the other violations refuse or have no move. -/
structure Marks where
  /-- V3, SET_CURSOR with row 4. -/
  rowIndexPastTable : Bool
  /-- V4, SET_ENTRY_MODE or SET_FUNCTION_SET with flags outside 0x00 to 0x03. -/
  malformedFlags : Bool
deriving DecidableEq, Repr

/-- The state of the machine. -/
structure State where
  /-- The parameters of 00_scope.md R7, changed by no step (log 1). -/
  cfg : Config
  /-- `DCR` (R21). -/
  dcr : Dcr
  /-- `INIT` (R24). -/
  init : Init
  /-- `OE[p]` (R26). -/
  oe : PerPin Bool
  /-- `LVL[p]`, the last level driven since reset, or none (R27). -/
  lvl : PerPin (Option Level)
  /-- `SEQ` (R29). -/
  seq : Seq
  /-- Operand latch `A` (R30). -/
  latchA : Byte
  /-- Operand latch `B` (R30). -/
  latchB : Byte
  /-- `RESP_VALID` (30_encoding.md R74). -/
  respValid : Bool
  /-- `RESP_COUNT`: `some 1` for WRITE, `none` where it has no meaning (R74, decision D26). -/
  respCount : Option Nat
  /-- The violations recorded since reset (60_exceptions.md R162). -/
  marks : Marks
  /-- The observable: the trace of the run, oldest event first (00_scope.md R9; log 10). -/
  trace : List Event
  /-- The model's own: how many draws of `ROW4_OFFSET` have been made (log 8). -/
  draws : Nat
  /-- The model's own: the requests the host still has to present, the next one first; its head is what stands on
  `REQ` with `REQ_VALID` high (R74, 60_exceptions.md R176; log 11). -/
  script : List Request
  /-- `RST`, asserted (70_reset_and_hazards.md R181; log 17). -/
  rst : Bool
deriving DecidableEq, Repr

/-- The block raises no exception and has no error channel (60_exceptions.md R160): nobody raises a fault, so there is
none to name (log 25). -/
inductive Fault where
deriving DecidableEq, Repr

/-- Why the model gives a request no meaning. A refusal errs toward unprovable: the hardware does something and the model
says nothing about it (60_exceptions.md R162), so every one of these is safe. -/
inductive Refusal where
  /-- Raised by an arm of `exec` whose instruction has no meaning yet; no arm is left so. Safe. -/
  | notModelled (mnemonic : String)
  /-- V8, PinsNotDistinct: raised by every operation when two of the three pins are the same (R163). Safe. -/
  | pinsNotDistinct
  /-- V2, SetupRepeated: raised by SETUP when INIT is not Uninitialized and ALLOW_REINIT is false (R163). Safe. -/
  | setupRepeated
  /-- V1, OpBeforeReady: raised by every host operation but SETUP when INIT is not Ready (R163). Safe. -/
  | opBeforeReady
  /-- V7, TransactionBroken: raised by a step that meets RST asserted while an operation is in progress (R163, R181). Safe. -/
  | resetDuringOperation
  /-- Raised by `RotRead(i)` for i >= 5; "no rule ever calls" it there (20_memory.md R41). Safe. -/
  | rotIndexBeyondTable
  /-- Raised by a step on a host request with OP 0xD, 0xE or 0xF (30_encoding.md R73). Safe. -/
  | reservedOp
  /-- Raised by a step on a command byte outside the six legal ranges (R68, 93_implementation_defined.md U11). Safe. -/
  | unassignedCommandByte
  /-- Raised by a step on a frame whose second preamble bit is high (R68, U11). Safe. -/
  | reservedPreamble
deriving DecidableEq, Repr

/-- An outcome of this machine. -/
abbrev Result := Host.Outcome State Fault Refusal

/-- The block right after reset (10_state.md R35, 70_reset_and_hazards.md R180). The spec gives `A` and `B` no reset
value: DESIGN CHOICE 0 (unsafe, log 6). The response ports, `rst` and the model's own fields: log 8, 11, 17, 19. -/
def State.reset : State where
  cfg := Config.default
  dcr := { d := true, c := false, b := false }
  init := .uninitialized
  oe := { sel := false, clk := false, dat := false }
  lvl := { sel := none, clk := none, dat := none }
  seq := .idle
  latchA := 0
  latchB := 0
  respValid := false
  respCount := none
  marks := { rowIndexPastTable := false, malformedFlags := false }
  trace := []
  draws := 0
  script := []
  rst := false

end Sys2Proof.Machine
end

