-- ==== Sys2Proof/Machine/Flags.lean ====
section
/-!
DEFINITION. The flags of `DCR`: setting one, packing and unpacking all (10_state.md R21, R22).
-/

namespace Sys2Proof.Machine

/-- `DCR.flag <- v`; "the other two flags keep their values" (42_display_register_state.md R111). -/
def Dcr.set (r : Dcr) (flag : DcrFlag) (v : Bool) : Dcr :=
  match flag with
  | .d => { r with d := v }
  | .c => { r with c := v }
  | .b => { r with b := v }

/-- `pack(DCR)`, that is `0b00001DCB` (R22). -/
def pack (r : Dcr) : Byte :=
  opcDispctl ||| (if r.d then flagD else 0) ||| (if r.c then flagC else 0) ||| (if r.b then flagB else 0)

/-- The inverse of `pack` on 0x08 to 0x0F: `D = v[2]`, `C = v[1]`, `B = v[0]` (R22). -/
def unpack (v : Byte) : Dcr where
  d := v.getLsbD 2
  c := v.getLsbD 1
  b := v.getLsbD 0

end Sys2Proof.Machine
end

