-- ==== Sys2Proof/Machine/Operands.lean ====
section
/-!
DEFINITION. Operand assembly (30_encoding.md R66, R77): the command bytes made from operands, and the cursor address.
-/

namespace Sys2Proof.Machine

/-- `OPC_ENTRY | flags`, all 8 bits of `flags` taking part (R66(b)). -/
def entryModeByte (flags : Byte) : Byte := opcEntry ||| flags

/-- `OPC_FUNCSET | flags`, all 8 bits of `flags` taking part (R66(c)). -/
def functionSetByte (flags : Byte) : Byte := opcFuncset ||| flags

/-- `OPC_SETDDRAM | address` (R66(d)). -/
def setDdramByte (address : Byte) : Byte := opcSetddram ||| address

/-- The row clamp of 43_cursor_address_mapper.md R130: `row > MAX_ROWS`, unsigned, gives `MAX_ROWS - 1`; row 4 passes
unclamped, the known defect that is kept (90_conflicts.md C3). -/
def clampRow (row : Byte) : Byte := if maxRows < row then maxRows - 1 else row

/-- `(col + off) mod 256` (R130; the wrap is decision D14, log 24). -/
def cursorAddress (col off : Byte) : Byte := col + off

/-- The entry-mode flags made of the two fields of the family (R65, R67). -/
def entryFlags (increment shiftRight : Bool) : Byte :=
  (if increment then emIncrement else emDecrement) ||| (if shiftRight then emShiftRight else emShiftLeft)

end Sys2Proof.Machine
end

