-- ==== Sys2Proof/WellFormed.lean ====
section
/-!
DEFINITION. Legal operands and legal words (30_encoding.md R65, R67, R68, R73). Every operand of `Instr` has the width
of its field, so every `Instr` can be encoded; what is checked here is the contract. An instruction that fails the check
still has its meaning (it records V3 or V4, 60_exceptions.md R163): no statement assumes the check away.
-/

namespace Sys2Proof

/-- A flag byte outside 0x00 to 0x03 is a "malformed flag byte", V4 (R67). -/
def malformedFlags (flags : Byte) : Bool := 3#8 < flags

/-- The operands are legal by R67: the flags are 0x00 to 0x03 (else V4) and the row is not 4 (else V3). -/
def Instr.wellFormed : Instr → Bool
  | .setup => true
  | .clear => true
  | .home => true
  | .displayOn => true
  | .displayOff => true
  | .cursorOn => true
  | .cursorOff => true
  | .blinkOn => true
  | .blinkOff => true
  | .setCursor _ row => row != 4
  | .setEntryMode flags => !malformedFlags flags
  | .setFunctionSet flags => !malformedFlags flags
  | .write _ => true
  | .cmdClearDisplay => true
  | .cmdReturnHome => true
  | .cmdEntryModeSet _ _ => true
  | .cmdDisplayControl _ _ _ => true
  | .cmdFunctionSet _ => true
  | .cmdSetDdramAddress _ => true
  | .frameCommand _ => true
  | .frameData _ => true

/-- The instruction is one of the thirteen operations a host can issue (00_scope.md R2). -/
def Instr.isHostOp : Instr → Bool
  | .setup => true
  | .clear => true
  | .home => true
  | .displayOn => true
  | .displayOff => true
  | .cursorOn => true
  | .cursorOff => true
  | .blinkOn => true
  | .blinkOff => true
  | .setCursor _ _ => true
  | .setEntryMode _ => true
  | .setFunctionSet _ => true
  | .write _ => true
  | .cmdClearDisplay => false
  | .cmdReturnHome => false
  | .cmdEntryModeSet _ _ => false
  | .cmdDisplayControl _ _ _ => false
  | .cmdFunctionSet _ => false
  | .cmdSetDdramAddress _ => false
  | .frameCommand _ => false
  | .frameData _ => false

/-- The byte lies in one of the six legal ranges of R65. -/
def legalCommandByte (b : Byte) : Bool :=
  b == 0x01 || b == 0x02 || (0x04#8 ≤ b && b ≤ 0x07#8) || (0x08#8 ≤ b && b ≤ 0x0F#8)
    || (0x38#8 ≤ b && b ≤ 0x3B#8) || 0x80#8 ≤ b

/-- The word names something: an OP that is not reserved (R73), a command byte in a legal range (R65), a frame whose
second preamble bit is low (R61). -/
def Request.wellFormed : Request → Bool
  | .host w => (w.extractLsb' 16 4).toNat ≤ 12
  | .command b => legalCommandByte b
  | .frame f => !f.getLsbD 8

end Sys2Proof
end

