-- ==== Sys2Proof/Decode.lean ====
section
/-!
DEFINITION. Decoding of the three layers (30_encoding.md R60, R78), total, rejecting by name; then the encoder. Host
requests are read by R71 to R73, command bytes by the legal ranges of R65, frames by R61.
-/

namespace Sys2Proof

/-- Why a word names no instruction. -/
inductive DecodeError where
  /-- `OP` 0xD, 0xE or 0xF (R73). -/
  | reservedOp
  /-- A command byte outside the six legal ranges (R65, R68). -/
  | unassignedCommandByte
  /-- A frame with a high second preamble bit (R61, R68). -/
  | reservedPreamble
deriving DecidableEq, Repr

/-- `REQ[19:16]`, the field `OP` (R71). -/
def reqOp (w : BitVec 20) : BitVec 4 := w.extractLsb' 16 4

/-- `REQ[15:8]`, the field `A` (R71). -/
def reqA (w : BitVec 20) : Byte := w.extractLsb' 8 8

/-- `REQ[7:0]`, the field `B` (R71). -/
def reqB (w : BitVec 20) : Byte := w.extractLsb' 0 8

/-- The operation named by the fields of a host request (R72, R73); a field that an operation ignores is not looked at. -/
def hostInstr (op : BitVec 4) (a b : Byte) : Except DecodeError Instr :=
  match op.toNat with
  | 0x0 => .ok .setup
  | 0x1 => .ok .clear
  | 0x2 => .ok .home
  | 0x3 => .ok .displayOn
  | 0x4 => .ok .displayOff
  | 0x5 => .ok .cursorOn
  | 0x6 => .ok .cursorOff
  | 0x7 => .ok .blinkOn
  | 0x8 => .ok .blinkOff
  | 0x9 => .ok (.setCursor a b)
  | 0xA => .ok (.setEntryMode a)
  | 0xB => .ok (.setFunctionSet a)
  | 0xC => .ok (.write a)
  | _ => .error .reservedOp

/-- A host request (R71, R72). -/
def decodeHost (w : BitVec 20) : Except DecodeError Instr := hostInstr (reqOp w) (reqA w) (reqB w)

/-- A command byte, by the match and mask of its family (R65; the table's CMD8 rows). -/
def decodeCommand (b : Byte) : Except DecodeError Instr :=
  if b = 0x01 then .ok .cmdClearDisplay
  else if b = 0x02 then .ok .cmdReturnHome
  else if b &&& 0xFC = 0x04 then .ok (.cmdEntryModeSet (b.getLsbD 1) (b.getLsbD 0))
  else if b &&& 0xF8 = 0x08 then .ok (.cmdDisplayControl (b.getLsbD 2) (b.getLsbD 1) (b.getLsbD 0))
  else if b &&& 0xFC = 0x38 then .ok (.cmdFunctionSet (b.extractLsb' 0 2))
  else if b &&& 0x80 = 0x80 then .ok (.cmdSetDdramAddress (b.extractLsb' 0 7))
  else .error .unassignedCommandByte

/-- A frame, position 0 (the mode bit) as bit 9 and position 1 (always low) as bit 8 (R61, R62). -/
def decodeFrame (f : BitVec 10) : Except DecodeError Instr :=
  if f.getLsbD 8 then .error .reservedPreamble
  else if f.getLsbD 9 then .ok (.frameData (f.extractLsb' 0 8))
  else .ok (.frameCommand (f.extractLsb' 0 8))

/-- The instruction a word stands for, at its layer. -/
def decode : Request → Except DecodeError Instr
  | .host w => decodeHost w
  | .command b => decodeCommand b
  | .frame f => decodeFrame f

/-- The word of a host request, `{OP, A, B}` (R71). -/
def hostWord (op : BitVec 4) (a b : Byte) : Request := .host (op ++ a ++ b)

/-- The words of an instruction, from the tables of R61, R65 and R72; ignored fields are zero. -/
def encode : Instr → Request
  | .setup => hostWord 0x0 0 0
  | .clear => hostWord 0x1 0 0
  | .home => hostWord 0x2 0 0
  | .displayOn => hostWord 0x3 0 0
  | .displayOff => hostWord 0x4 0 0
  | .cursorOn => hostWord 0x5 0 0
  | .cursorOff => hostWord 0x6 0 0
  | .blinkOn => hostWord 0x7 0 0
  | .blinkOff => hostWord 0x8 0 0
  | .setCursor col row => hostWord 0x9 col row
  | .setEntryMode flags => hostWord 0xA flags 0
  | .setFunctionSet flags => hostWord 0xB flags 0
  | .write character => hostWord 0xC character 0
  | .cmdClearDisplay => .command Machine.opcClear
  | .cmdReturnHome => .command Machine.opcHome
  | .cmdEntryModeSet increment shiftRight => .command (Machine.entryModeByte (Machine.entryFlags increment shiftRight))
  | .cmdDisplayControl d c b => .command (Machine.pack { d := d, c := c, b := b })
  | .cmdFunctionSet table => .command (Machine.functionSetByte (table.setWidth 8))
  | .cmdSetDdramAddress address => .command (Machine.setDdramByte (address.setWidth 8))
  | .frameCommand v => .frame (0#2 ++ v)
  | .frameData v => .frame (2#2 ++ v)

/-- The word at the layer whose rows the opcode table numbers with `nbits` bits: 8 for a command byte, 10 (16 in whole
bytes) for a frame, 20 (24 in whole bytes) for a host request; `none` where `w` has a bit the layer's port does not have
(log 26). -/
def Request.ofTableWord (nbits w : Nat) : Option Request :=
  if nbits ≤ 8 then (if w < 2 ^ 8 then some (.command (BitVec.ofNat 8 w)) else none)
  else if nbits ≤ 16 then (if w < 2 ^ 10 then some (.frame (BitVec.ofNat 10 w)) else none)
  else (if w < 2 ^ 20 then some (.host (BitVec.ofNat 20 w)) else none)

/-- The instruction the decoder reads from an opcode-table word of `nbits` bits. -/
def decodeTableWord (nbits w : Nat) : Option Instr :=
  match Request.ofTableWord nbits w with
  | none => none
  | some r =>
    match decode r with
    | .ok i => some i
    | .error _ => none

end Sys2Proof
end

