-- ==== Sys2Proof/Machine/Link.lean ====
section
/-!
DEFINITION. The traces of the internal primitives, leaf first: clock cycle, byte, preamble, transaction
(40_link_transmitter.md R90, R91; 41_frame_encoder.md R100, R101), and the frame they carry (30_encoding.md R62).
-/

namespace Sys2Proof.Machine

/-- `clockBit(b)` (R90). The data pin is driven before the opening `Drive(CLK, 0)` (decision D8, log 20); with
`SETTLE_PER_CYCLE` false the last event is dropped (decision D7, log 4). -/
def clockBit (cfg : Config) (b : Level) : List Event :=
  [.drive .dat b, .drive .clk false, .wait tLow, .drive .clk true, .wait tHigh, .drive .clk false]
    ++ (if cfg.settlePerCycle then [.wait tSettle] else [])

/-- The bits of a byte in the order they are sent: bit 7 first, bit 0 last (R91, 20_memory.md R44). -/
def msbFirst (v : Byte) : List Level :=
  [v.getLsbD 7, v.getLsbD 6, v.getLsbD 5, v.getLsbD 4, v.getLsbD 3, v.getLsbD 2, v.getLsbD 1, v.getLsbD 0]

/-- `shiftByte(value)` (R91): eight cycles; with `SETTLE_PER_CYCLE` false the single settle stands at the end. -/
def shiftByte (cfg : Config) (v : Byte) : List Event :=
  (msbFirst v).flatMap (clockBit cfg) ++ (if cfg.settlePerCycle then [] else [.wait tSettle])

/-- Position 0 of a frame: 1 for DATA, 0 for COMMAND (30_encoding.md R61). -/
def modeBit : TxMode → Level
  | .command => false
  | .data => true

/-- `preamble(mode)` (R100): two clock cycles, the mode bit and then low. -/
def preamble (cfg : Config) (m : TxMode) : List Event :=
  clockBit cfg (modeBit m) ++ clockBit cfg false

/-- The trace of `send(value, mode)` (R101): chip-select low, preamble, byte, chip-select high. -/
def sendTrace (cfg : Config) (v : Byte) (m : TxMode) : List Event :=
  [.drive .sel false] ++ preamble cfg m ++ shiftByte cfg v ++ [.drive .sel true]

/-- `encodeFrame(v, mode)`, the 10 levels of a frame in the order of transmission (R61, R62). -/
def encodeFrame (v : Byte) (m : TxMode) : List Level := modeBit m :: false :: msbFirst v

end Sys2Proof.Machine
end

