-- ==== Sys2Proof/Machine/Ops.lean ====
section
/-!
DEFINITION. The named operations every meaning is built from: emitting events, the two primitives `send` and `command`,
the table read, the checks at acceptance and the completion of an operation. The block takes no exception
(60_exceptions.md R160, R166), so the shared stop is the refusal of a contract violation (R162 to R165).
-/

namespace Sys2Proof.Machine

/-! ### Registers and ports -/

/-- A `PerPin` value at one pin. -/
def PerPin.get {α : Type} (x : PerPin α) : Pin → α
  | .sel => x.sel
  | .clk => x.clk
  | .dat => x.dat

/-- A `PerPin` value with one pin changed. -/
def PerPin.put {α : Type} (x : PerPin α) (p : Pin) (a : α) : PerPin α :=
  match p with
  | .sel => { x with sel := a }
  | .clk => { x with clk := a }
  | .dat => { x with dat := a }

/-- `BUSY`: 1 from acceptance until the last event has completed (30_encoding.md R74). -/
def State.isBusy (s : State) : Bool :=
  match s.seq with
  | .idle => false
  | .busy _ _ _ => true

/-- `REQ_VALID` and the request on the port: the head of the host's list (R74, log 11). -/
def State.pending (s : State) : Option Request := s.script.head?

/-- `DCR.flag <- v`. -/
def State.setFlag (s : State) (flag : DcrFlag) (v : Bool) : State := { s with dcr := s.dcr.set flag v }

/-- `INIT <- i`. -/
def State.setInit (s : State) (i : Init) : State := { s with init := i }

/-- `SEQ <- q`. -/
def State.setSeq (s : State) (q : Seq) : State := { s with seq := q }

/-- Record V4 when `bad`; a mark is never cleared (60_exceptions.md R162). -/
def State.markFlags (s : State) (bad : Bool) : State :=
  { s with marks := { s.marks with malformedFlags := s.marks.malformedFlags || bad } }

/-- Make one draw of `ROW4_OFFSET` and record V3 (20_memory.md R41). -/
def State.drawRow4 (s : State) : State :=
  { s with draws := s.draws + 1, marks := { s.marks with rowIndexPastTable := true } }

/-! ### Events -/

/-- `Mode(p)` sets `OE[p]`; nothing else touches it (10_state.md R26). -/
def Event.onOe (oe : PerPin Bool) : Event → PerPin Bool
  | .mode p => oe.put p true
  | .drive _ _ => oe
  | .wait _ => oe

/-- `Drive(p, l)` sets `LVL[p]`; nothing else touches it (10_state.md R27). -/
def Event.onLvl (lvl : PerPin (Option Level)) : Event → PerPin (Option Level)
  | .mode _ => lvl
  | .drive p l => lvl.put p (some l)
  | .wait _ => lvl

/-- `emit t`: append t to the trace and apply each event's effect on the pin registers in order (00_scope.md R10). -/
def State.emit (s : State) (t : List Event) : State :=
  { s with
    oe := t.foldl Event.onOe s.oe
    lvl := t.foldl Event.onLvl s.lvl
    trace := s.trace ++ t }

/-- `send(value, mode)`, the only store (41_frame_encoder.md R101). It tests nothing (60_exceptions.md R164). -/
def State.send (s : State) (v : Byte) (m : TxMode) : State := s.emit (sendTrace s.cfg v m)

/-- `command(value)` = `send(value, COMMAND)` (R102). -/
def State.command (s : State) (v : Byte) : State := s.send v .command

/-! ### The table read -/

/-- A row-offset table in the canonical form of a memory: indices strictly rising. -/
def Memory.wf (m : List Host.Cell) : Bool := decide (m.Pairwise fun x y => x.1 < y.1)

/-- The byte a memory lists at an address, or none. -/
def Memory.read (m : List Host.Cell) (a : Nat) : Option Byte := (m.find? fun c => c.1 == a).map Prod.snd

/-- `RotRead(i)`, the only load (20_memory.md R41): the table for 0 to 3, the draw and V3 for 4, a refusal from 5 on. -/
def State.rotRead (s : State) (i : Byte) : Except Refusal (Byte × State) :=
  match Memory.read rot i.toNat with
  | some off => .ok (off, s)
  | none => if i = 4 then .ok (Config.row4Offset s.draws, s.drawRow4) else .error .rotIndexBeyondTable

/-! ### Acceptance and completion -/

/-- The check of V8, then of V1, for a host operation other than SETUP (60_exceptions.md R163 to R165). -/
def State.gateReady (s : State) : Option Refusal :=
  if s.cfg.pinsDistinct = false then some .pinsNotDistinct
  else if s.init = .ready then none
  else some .opBeforeReady

/-- The check of V8, then of V2, for SETUP (R163 to R165, 44_clear_home_setup.md R142). -/
def State.gateSetup (s : State) : Option Refusal :=
  if s.cfg.pinsDistinct = false then some .pinsNotDistinct
  else if s.init = .uninitialized ∨ s.cfg.allowReinit = true then none
  else some .setupRepeated

/-- An internal primitive tests nothing of the state (R164); V8 is a property of the configuration (R163). -/
def State.gateLink (s : State) : Option Refusal :=
  if s.cfg.pinsDistinct = false then some .pinsNotDistinct else none

/-- Acceptance: a request presented while BUSY waits (30_encoding.md R74; log 16); a violation refuses before the
operation's first event (60_exceptions.md R166); otherwise the operation runs. -/
def State.accepted (s : State) (gate : Option Refusal) (run : Result) : Result :=
  match s.seq with
  | .busy _ _ _ => .next s
  | .idle =>
    match gate with
    | some r => .refused r
    | none => run

/-- Completion: `RESP_VALID` pulses, with `RESP_COUNT` the return value (R74, log 19). -/
def State.finish (s : State) (ret : Option Nat) : State := { s with respValid := true, respCount := ret }

end Sys2Proof.Machine
end

