-- ==== Sys2Proof/Machine/CharOutput.lean ====
section
/-!
DEFINITION. Character output (45_character_output.md R150).
-/

namespace Sys2Proof.Machine

/-- WRITE ch (R150): one DATA frame, no settle, the constant return value 1. -/
def execWrite (character : Byte) (s : State) : Result :=
  s.accepted s.gateReady (.next ((s.send character .data).finish (some 1)))

end Sys2Proof.Machine
end

