-- ==== Sys2Proof/Machine/Cursor.lean ====
section
/-!
DEFINITION. The cursor-address mapper (43_cursor_address_mapper.md R130).
-/

namespace Sys2Proof.Machine

/-- SET_CURSOR col, row (R130): clamp, read the table, add, send; no settle follows (70_reset_and_hazards.md R189). -/
def execSetCursor (col row : Byte) (s : State) : Result :=
  s.accepted s.gateReady
    (match s.rotRead (clampRow row) with
     | .error r => .refused r
     | .ok (off, s1) => .next ((s1.command (setDdramByte (cursorAddress col off))).finish none))

end Sys2Proof.Machine
end

