-- ==== Sys2Proof/Machine/DisplayControl.lean ====
section
/-!
DEFINITION. The six toggles (42_display_register_state.md R110 to R118).
-/

namespace Sys2Proof.Machine

/-- The toggle template (R111): write one flag, then send the full register, in that order (R112), then settle. -/
def State.toggle (s : State) (flag : DcrFlag) (v : Bool) : State :=
  let s1 := s.setFlag flag v
  (s1.command (pack s1.dcr)).emit [.wait tCmd]

/-- A toggle issued by the host. -/
def State.hostToggle (s : State) (flag : DcrFlag) (v : Bool) : Result :=
  s.accepted s.gateReady (.next ((s.toggle flag v).finish none))

/-- DISPLAY_ON: `toggle(D, 1)` (R113). -/
def execDisplayOn (s : State) : Result := s.hostToggle .d true

/-- DISPLAY_OFF: `toggle(D, 0)` (R114). -/
def execDisplayOff (s : State) : Result := s.hostToggle .d false

/-- CURSOR_ON: `toggle(C, 1)` (R115). -/
def execCursorOn (s : State) : Result := s.hostToggle .c true

/-- CURSOR_OFF: `toggle(C, 0)` (R116). -/
def execCursorOff (s : State) : Result := s.hostToggle .c false

/-- BLINK_ON: `toggle(B, 1)` (R117). -/
def execBlinkOn (s : State) : Result := s.hostToggle .b true

/-- BLINK_OFF: `toggle(B, 0)` (R118). -/
def execBlinkOff (s : State) : Result := s.hostToggle .b false

end Sys2Proof.Machine
end

