-- ==== Sys2Proof/Machine/PassThrough.lean ====
section
/-!
DEFINITION. Entry mode set and function set (42_display_register_state.md R119, R120): the flags are passed through and
stored nowhere.
-/

namespace Sys2Proof.Machine

/-- The body of SET_ENTRY_MODE (R119); SETUP step 8 runs it too. -/
def State.entryMode (s : State) (flags : Byte) : State := (s.command (entryModeByte flags)).emit [.wait tCmd]

/-- The body of SET_FUNCTION_SET (R120); SETUP step 4 runs it too. -/
def State.functionSet (s : State) (flags : Byte) : State := (s.command (functionSetByte flags)).emit [.wait tCmd]

/-- SET_ENTRY_MODE flags (R119). Malformed flags are sent all the same and V4 is recorded (60_exceptions.md R163). -/
def execSetEntryMode (flags : Byte) (s : State) : Result :=
  s.accepted s.gateReady (.next (((s.markFlags (malformedFlags flags)).entryMode flags).finish none))

/-- SET_FUNCTION_SET flags (R120). Malformed flags are sent all the same and V4 is recorded (R163). -/
def execSetFunctionSet (flags : Byte) (s : State) : Result :=
  s.accepted s.gateReady (.next (((s.markFlags (malformedFlags flags)).functionSet flags).finish none))

end Sys2Proof.Machine
end

