-- ==== Sys2Proof/Machine/Sequencer.lean ====
section
/-!
DEFINITION. Clear, home and setup (44_clear_home_setup.md R140 to R142).
-/

namespace Sys2Proof.Machine

/-- The body of CLEAR (R140); SETUP step 6 runs it too. -/
def State.clearDisplay (s : State) : State := (s.command opcClear).emit [.wait tSlow]

/-- The body of HOME (R141); SETUP step 7 runs it too. -/
def State.returnHome (s : State) : State := (s.command opcHome).emit [.wait tSlow]

/-- CLEAR (R140). -/
def execClear (s : State) : Result := s.accepted s.gateReady (.next (s.clearDisplay.finish none))

/-- HOME (R141). -/
def execHome (s : State) : Result := s.accepted s.gateReady (.next (s.returnHome.finish none))

/-- SETUP steps 1 and 2 (R142): configure the three pins, then drive the idle bus state, each in the order SEL, CLK, DAT
(decision D9, log 20). -/
def pinSetup : List Event :=
  [.mode .sel, .mode .clk, .mode .dat, .drive .sel true, .drive .clk true, .drive .dat false]

/-- The body of SETUP (R142): the eight steps in their fixed order. The sub-operations run in place and their V1 check
is not applied (90_conflicts.md C7). -/
def State.setupSteps (s : State) : State :=
  let s2 := (s.emit pinSetup).setInit .initializing
  let s3 := s2.emit [.wait tPower]
  let s4 := s3.functionSet (s3.cfg.fsDefault.setWidth 8)
  let s5 := s4.toggle .d true
  let s6 := s5.clearDisplay
  let s7 := s6.returnHome
  let s8 := s7.entryMode (emIncrement ||| emShiftLeft)
  s8.setInit .ready

/-- SETUP (R142). -/
def execSetup (s : State) : Result := s.accepted s.gateSetup (.next (s.setupSteps.finish none))

end Sys2Proof.Machine
end

