-- ==== Sys2Proof/Machine/Wire.lean ====
section
/-!
DEFINITION. The command-byte families and the frame kinds of the opcode table, each the internal primitive that puts it on
the link (30_encoding.md R60, 41_frame_encoder.md R101, R102; DEDUCED, log 12). A command byte changes no register of the
block: the settle and the write of `DCR` belong to the operation that sends it (20_memory.md R52, log 13). It is no host
request, so it delivers no response.
-/

namespace Sys2Proof.Machine

/-- One execution of `command(value)` at the frame encoder (R102). -/
def State.linkCommand (s : State) (v : Byte) : Result := s.accepted s.gateLink (.next (s.command v))

/-- One execution of `send(value, mode)` at the frame encoder (R101). -/
def State.linkSend (s : State) (v : Byte) (m : TxMode) : Result := s.accepted s.gateLink (.next (s.send v m))

/-- CMD_CLEAR_DISPLAY: `command(0x01)` (30_encoding.md R65). -/
def execCmdClearDisplay (s : State) : Result := s.linkCommand opcClear

/-- CMD_RETURN_HOME: `command(0x02)` (R65). -/
def execCmdReturnHome (s : State) : Result := s.linkCommand opcHome

/-- CMD_ENTRY_MODE_SET: `command(0x04 | flags)` (R66(b)). -/
def execCmdEntryModeSet (increment shiftRight : Bool) (s : State) : Result :=
  s.linkCommand (entryModeByte (entryFlags increment shiftRight))

/-- CMD_DISPLAY_CONTROL: `command(0b00001DCB)` (10_state.md R22). -/
def execCmdDisplayControl (d c b : Bool) (s : State) : Result := s.linkCommand (pack { d := d, c := c, b := b })

/-- CMD_FUNCTION_SET: `command(0x38 | table)` (R66(c)). -/
def execCmdFunctionSet (table : BitVec 2) (s : State) : Result := s.linkCommand (functionSetByte (table.setWidth 8))

/-- CMD_SET_DDRAM_ADDRESS: `command(0x80 | address)` (R66(d)). -/
def execCmdSetDdramAddress (address : BitVec 7) (s : State) : Result := s.linkCommand (setDdramByte (address.setWidth 8))

/-- FRAME_COMMAND: `send(v, COMMAND)` (R61, R101). -/
def execFrameCommand (v : Byte) (s : State) : Result := s.linkSend v .command

/-- FRAME_DATA: `send(v, DATA)` (R61, R101). -/
def execFrameData (v : Byte) (s : State) : Result := s.linkSend v .data

end Sys2Proof.Machine
end

