-- ==== Sys2Proof/Machine/Dispatch.lean ====
section
/-!
DEFINITION. One arm per constructor of `Instr`.
-/

namespace Sys2Proof.Machine

def exec (i : Instr) (s : State) : Host.Outcome State Fault Refusal :=
  match i with
  | .setup => Sys2Proof.Machine.execSetup s
  | .clear => Sys2Proof.Machine.execClear s
  | .home => Sys2Proof.Machine.execHome s
  | .displayOn => Sys2Proof.Machine.execDisplayOn s
  | .displayOff => Sys2Proof.Machine.execDisplayOff s
  | .cursorOn => Sys2Proof.Machine.execCursorOn s
  | .cursorOff => Sys2Proof.Machine.execCursorOff s
  | .blinkOn => Sys2Proof.Machine.execBlinkOn s
  | .blinkOff => Sys2Proof.Machine.execBlinkOff s
  | .setCursor col row => Sys2Proof.Machine.execSetCursor col row s
  | .setEntryMode flags => Sys2Proof.Machine.execSetEntryMode flags s
  | .setFunctionSet flags => Sys2Proof.Machine.execSetFunctionSet flags s
  | .write character => Sys2Proof.Machine.execWrite character s
  | .cmdClearDisplay => Sys2Proof.Machine.execCmdClearDisplay s
  | .cmdReturnHome => Sys2Proof.Machine.execCmdReturnHome s
  | .cmdEntryModeSet increment shiftRight => Sys2Proof.Machine.execCmdEntryModeSet increment shiftRight s
  | .cmdDisplayControl d c b => Sys2Proof.Machine.execCmdDisplayControl d c b s
  | .cmdFunctionSet table => Sys2Proof.Machine.execCmdFunctionSet table s
  | .cmdSetDdramAddress address => Sys2Proof.Machine.execCmdSetDdramAddress address s
  | .frameCommand v => Sys2Proof.Machine.execFrameCommand v s
  | .frameData v => Sys2Proof.Machine.execFrameData v s

end Sys2Proof.Machine
end

