-- ==== Sys2Proof/Machine/Micro.lean ====
section
/-!
DEFINITION. The micro-step view (10_state.md R29): an accepted operation sits in `SEQ` and performs one event at a time.
-/

namespace Sys2Proof.Machine

/-- The trace of one command followed by its settle delay (42_display_register_state.md R110, 44_clear_home_setup.md R140). -/
def settledCommand (cfg : Config) (v : Byte) (settle : Nat) : List Event := sendTrace cfg v .command ++ [.wait settle]

/-- SETUP's events before step 5 (R142 steps 1 to 4). -/
def setupOpening (cfg : Config) : List Event :=
  pinSetup ++ [.wait tPower] ++ settledCommand cfg (functionSetByte (cfg.fsDefault.setWidth 8)) tCmd

/-- SETUP's trace (R142), given `DCR` with step 5's write made. -/
def setupTrace (cfg : Config) (dcr : Dcr) : List Event :=
  setupOpening cfg ++ settledCommand cfg (pack dcr) tCmd ++ settledCommand cfg opcClear tSlow
    ++ settledCommand cfg opcHome tSlow ++ settledCommand cfg (entryModeByte (emIncrement ||| emShiftLeft)) tCmd

/-- A toggle's register update and trace (R29, R111). -/
def State.openToggle (s : State) (flag : DcrFlag) (v : Bool) : State × List Event :=
  (s.setFlag flag v, settledCommand s.cfg (pack (s.dcr.set flag v)) tCmd)

/-- What acceptance fixes (R29): the state with the operation's register update made (a toggle's `DCR` write, the marks,
the draw), and the operation's trace T. -/
def opening (i : Instr) (s : State) : Except Refusal (State × List Event) :=
  match i with
  | .setup => .ok (s, setupTrace s.cfg (s.dcr.set .d true))
  | .clear => .ok (s, settledCommand s.cfg opcClear tSlow)
  | .home => .ok (s, settledCommand s.cfg opcHome tSlow)
  | .displayOn => .ok (s.openToggle .d true)
  | .displayOff => .ok (s.openToggle .d false)
  | .cursorOn => .ok (s.openToggle .c true)
  | .cursorOff => .ok (s.openToggle .c false)
  | .blinkOn => .ok (s.openToggle .b true)
  | .blinkOff => .ok (s.openToggle .b false)
  | .setCursor col row =>
    match s.rotRead (clampRow row) with
    | .error r => .error r
    | .ok (off, s1) => .ok (s1, sendTrace s.cfg (setDdramByte (cursorAddress col off)) .command)
  | .setEntryMode flags => .ok (s.markFlags (malformedFlags flags), settledCommand s.cfg (entryModeByte flags) tCmd)
  | .setFunctionSet flags => .ok (s.markFlags (malformedFlags flags), settledCommand s.cfg (functionSetByte flags) tCmd)
  | .write character => .ok (s, sendTrace s.cfg character .data)
  | .cmdClearDisplay => .ok (s, sendTrace s.cfg opcClear .command)
  | .cmdReturnHome => .ok (s, sendTrace s.cfg opcHome .command)
  | .cmdEntryModeSet increment shiftRight =>
    .ok (s, sendTrace s.cfg (entryModeByte (entryFlags increment shiftRight)) .command)
  | .cmdDisplayControl d c b => .ok (s, sendTrace s.cfg (pack { d := d, c := c, b := b }) .command)
  | .cmdFunctionSet table => .ok (s, sendTrace s.cfg (functionSetByte (table.setWidth 8)) .command)
  | .cmdSetDdramAddress address => .ok (s, sendTrace s.cfg (setDdramByte (address.setWidth 8)) .command)
  | .frameCommand v => .ok (s, sendTrace s.cfg v .command)
  | .frameData v => .ok (s, sendTrace s.cfg v .data)

/-- The checks an instruction meets at acceptance (60_exceptions.md R163 to R165). -/
def State.gate (s : State) (i : Instr) : Option Refusal :=
  if i = .setup then s.gateSetup else if i.isHostOp then s.gateReady else s.gateLink

/-- Acceptance in the micro-step view: the register update, then `SEQ <- Busy(op, 0)` (R29). -/
def acceptMicro (i : Instr) (s : State) : Result :=
  s.accepted (s.gate i)
    (match opening i s with
     | .error r => .refused r
     | .ok (s1, t) => .next (s1.setSeq (.busy i 0 t)))

/-- The register writes SETUP makes with its event of index k (R29): `INIT <- Initializing` with the event of index 5,
`INIT <- Ready` with the last. Step 5's write of `DCR.D` goes with the first event of its frame, which it precedes by
R112; R29 gives it no index (DESIGN CHOICE, log 18). -/
def State.setupWrites (s : State) (k n : Nat) : State :=
  let s1 := if k = 5 then s.setInit .initializing else s
  let s2 := if k = (setupOpening s.cfg).length then s1.setFlag .d true else s1
  if k + 1 = n then s2.setInit .ready else s2

/-- The return value of an operation: 1 for WRITE, none for the others (decision D26). -/
def returnValue (i : Instr) : Option Nat :=
  match i with
  | .write _ => some 1
  | _ => none

/-- Delivering the return value and going back to `Idle` (R29); an internal primitive delivers nothing to the host. -/
def State.deliver (s : State) (i : Instr) : State :=
  (if i.isHostOp then s.finish (returnValue i) else s).setSeq .idle

/-- One micro-step in `Busy(op, k)` (R29): perform the event T[k], or deliver the return value when k = length(T). -/
def State.microStep (s : State) : State :=
  match s.seq with
  | .idle => s
  | .busy i k t =>
    match t[k]? with
    | some e =>
      ((if i = .setup then s.setupWrites k t.length else s).emit [e]).setSeq (.busy i (k + 1) t)
    | none => s.deliver i

/-- n micro-steps. -/
def State.microSteps : Nat → State → State
  | 0, s => s
  | n + 1, s => State.microSteps n s.microStep

/-- The state after the operation in progress has completed: its remaining events and the delivery. -/
def State.completed (s : State) : State :=
  match s.seq with
  | .idle => s
  | .busy _ k t => State.microSteps (t.length - k + 1) s

end Sys2Proof.Machine
end

