-- ==== Sys2Proof/Machine/Fetch.lean ====
section
/-!
DEFINITION. What a step does around an instruction: taking a request off the port, waiting, and reset. The block fetches
no instructions (20_memory.md R54); the host presents requests one at a time (30_encoding.md R74, log 11).
-/

namespace Sys2Proof.Machine

/-- The operand latches sample the fields of the request word once, at acceptance (10_state.md R30, log 7). A command byte
or a frame is no request word and samples nothing. -/
def State.latch (s : State) : Request → State
  | .host w => { s with latchA := reqA w, latchB := reqB w }
  | .command _ => s
  | .frame _ => s

/-- Taking the request r off the port, with `rest` still to come: the latches sample and the response pulse ends (R74). -/
def State.take (s : State) (r : Request) (rest : List Request) : State :=
  State.latch { s with script := rest, respValid := false, respCount := none } r

/-- Idle with no request: nothing runs until the host issues an operation (70_reset_and_hazards.md R180); the response
pulse ends. -/
def State.wait (s : State) : State := { s with respValid := false, respCount := none }

/-- RST asserted while idle: "the state holds the values of rule R180 and no request is accepted" (R181). The configuration
and the host's inputs are not the block's state; the latches have no reset value (R35) and keep what they hold; `draws`
goes on, so that draws stay fresh (log 6, 8, 17). -/
def State.holdReset (s : State) : State :=
  { State.reset with
    cfg := s.cfg
    latchA := s.latchA
    latchB := s.latchB
    draws := s.draws
    script := s.script
    rst := s.rst }

/-- The refusal of a word that names no instruction. -/
def decodeRefusal : DecodeError → Refusal
  | .reservedOp => .reservedOp
  | .unassignedCommandByte => .unassignedCommandByte
  | .reservedPreamble => .reservedPreamble

end Sys2Proof.Machine
end

