-- ==== Sys2Proof/Machine/Step.lean ====
section
/-!
DEFINITION. One step. At the level of 00_scope.md R9 one operation is one atomic transition (decision D1, log 9); an
operation already in progress, which only the micro-step view can show, goes on by micro-steps.
-/

namespace Sys2Proof.Machine

/-- A step that treats an accepted instruction by `run`: reset first (70_reset_and_hazards.md R181), then the operation in
progress (10_state.md R29), then the request on the port (30_encoding.md R74). The word is decoded before any violation is
looked for, so one that names no instruction is refused as such also with pins that are not distinct (V8), and RST while
busy is refused as V7 before the pins are looked at: 60_exceptions.md R165 orders neither (DESIGN CHOICE, safe, log 32). -/
def stepWith (run : Instr → State → Result) (s : State) : Result :=
  match s.rst, s.seq with
  | true, .idle => .next s.holdReset
  | true, .busy _ _ _ => .refused .resetDuringOperation
  | false, .busy _ _ _ => .next s.microStep
  | false, .idle =>
    match s.script with
    | [] => .next s.wait
    | r :: rest =>
      match decode r with
      | .error e => .refused (decodeRefusal e)
      | .ok i => run i (s.take r rest)

/-- One step: an accepted operation runs whole (D1). -/
def step (s : State) : Host.Outcome State Fault Refusal := stepWith exec s

/-- One step of the micro-step view: an accepted operation enters `SEQ` and performs its events step by step (R29). -/
def stepMicro (s : State) : Host.Outcome State Fault Refusal := stepWith acceptMicro s

/-- The word of an opcode-table row, presented on the port as the next request (log 11, 26): the block is idle and out of
reset, so the very next step takes it. A word with a bit the port does not have presents nothing. -/
def State.withFetchWord (s : State) (nbits w : Nat) : State :=
  match Request.ofTableWord nbits w with
  | none => s
  | some r => { s with script := r :: s.script, seq := .idle, rst := false }

end Sys2Proof.Machine
end

