-- ==== Sys2Proof/Machine/Observer.lean ====
section
/-!
DEFINITION. Readings of a trace and of the pins, for observers; no part of the block (30_encoding.md R64): recovering
frames, the minimum time, the electrical level.
-/

namespace Sys2Proof.Machine

/-- The receiver-side reading of R64: the three levels, the samples of the frame in progress, the frames ended. A sample
is a level of `DAT`, or none where `DAT` has never been driven. -/
structure Receiver where
  lvl : PerPin (Option Level)
  frame : Option (List (Option Level))
  frames : List (List (Option Level))
deriving DecidableEq, Repr

/-- The receiver before the first event. -/
def Receiver.start : Receiver where
  lvl := { sel := none, clk := none, dat := none }
  frame := none
  frames := []

/-- A frame starts at `Drive(SEL, 0)` and ends at the next `Drive(SEL, 1)`; within it each `Drive(CLK, 1)` samples the
current level of `DAT` (R64). -/
def Receiver.event (r : Receiver) (e : Event) : Receiver :=
  let r1 := { r with lvl := Event.onLvl r.lvl e }
  match e, r.frame with
  | .drive .sel false, none => { r1 with frame := some [] }
  | .drive .sel true, some f => { r1 with frame := none, frames := r.frames ++ [f] }
  | .drive .clk true, some f => { r1 with frame := some (f ++ [r.lvl.dat]) }
  | _, _ => r1

/-- A trace read from a receiver state on. -/
def Receiver.run (r : Receiver) (t : List Event) : Receiver := t.foldl Receiver.event r

/-- The frames recovered from a trace (R64). -/
def framesOf (t : List Event) : List (List (Option Level)) := (Receiver.start.run t).frames

/-- A byte from its levels, most significant first. -/
def byteOf (b7 b6 b5 b4 b3 b2 b1 b0 : Level) : Byte :=
  BitVec.ofBool b7 ++ BitVec.ofBool b6 ++ BitVec.ofBool b5 ++ BitVec.ofBool b4
    ++ BitVec.ofBool b3 ++ BitVec.ofBool b2 ++ BitVec.ofBool b1 ++ BitVec.ofBool b0

/-- The mode and value a recovered frame carries: ten samples, the second low (R61); anything else is reserved (R68). -/
def readFrame (f : List (Option Level)) : Option (TxMode × Byte) :=
  match f with
  | [some m, some false, some b7, some b6, some b5, some b4, some b3, some b2, some b1, some b0] =>
    some (if m then .data else .command, byteOf b7 b6 b5 b4 b3 b2 b1 b0)
  | _ => none

/-- The bytes a list of frames carries, with their modes, in order. -/
def bytesOf (fs : List (List (Option Level))) : List (TxMode × Byte) := fs.filterMap readFrame

/-- The transaction is a command byte of the display-control family, 0x08 to 0x0F (30_encoding.md R65). -/
def isDisplayControl (x : TxMode × Byte) : Bool := x.1 = .command && x.2 &&& 0xF8 == 0x08

/-- The last display-control command byte on the link (10_state.md R36(e)). -/
def lastDisplayControl (t : List Event) : Option Byte :=
  ((bytesOf (framesOf t)).filter isDisplayControl).getLast?.map Prod.snd

/-- The least time a trace takes, in microseconds: the sum of its waits, pin events taking none (70_reset_and_hazards.md
R186, R195). -/
def minTime (t : List Event) : Nat :=
  (t.map fun e => match e with
    | .mode _ => 0
    | .drive _ _ => 0
    | .wait n => n).sum

/-- The waits of a trace, in order (R196). -/
def waitsOf (t : List Event) : List Nat :=
  t.filterMap fun e => match e with
    | .mode _ => none
    | .drive _ _ => none
    | .wait n => some n

/-- What a pin carries (10_state.md R27). -/
inductive Electrical where
  /-- `OE[p] = 0`: the pin is not driven by the block. -/
  | notDriven
  /-- `OE[p] = 1` and no level driven yet: any value (decision D23, log 29). -/
  | unspecified
  /-- `OE[p] = 1`: the last level driven. -/
  | driven (l : Level)
deriving DecidableEq, Repr

/-- The electrical level of pin p (R27). -/
def State.electrical (s : State) (p : Pin) : Electrical :=
  if s.oe.get p then
    match s.lvl.get p with
    | none => .unspecified
    | some l => .driven l
  else .notDriven

/-- The waveform of a trace: the trace without the drives to a level the pin already has (decision D17). -/
def waveformFrom (lvl : PerPin (Option Level)) : List Event → List Event
  | [] => []
  | .drive p l :: t =>
    if lvl.get p = some l then waveformFrom lvl t else .drive p l :: waveformFrom (lvl.put p (some l)) t
  | e :: t => e :: waveformFrom lvl t

end Sys2Proof.Machine
end

