-- ==== Sys2Proof/Safety.lean ====
section
/-!
DEFINITION. What a good run is (60_exceptions.md R162, R176) and the invariants of 10_state.md R36.
-/

namespace Sys2Proof.Machine

/-- No violation recorded (60_exceptions.md R162). -/
def State.clean (s : State) : Bool := !s.marks.rowIndexPastTable && !s.marks.malformedFlags

/-- A good end of a run (60_exceptions.md R176): the last operation has completed, the host issues no more, and the run
carries no violation mark. -/
def State.goodEnd (s : State) : Bool := !s.isBusy && s.script.isEmpty && s.clean

/-- Idle and ready for a host operation other than SETUP (60_exceptions.md R170): `SEQ = Idle`, distinct pins,
`INIT = Ready`. -/
def State.acceptsOps (s : State) : Prop := s.seq = .idle ∧ s.cfg.pinsDistinct = true ∧ s.init = .ready

/-- Idle and ready for SETUP: Uninitialized, or any INIT with ALLOW_REINIT (R170, R163 V2). -/
def State.acceptsSetup (s : State) : Prop :=
  s.seq = .idle ∧ s.cfg.pinsDistinct = true ∧ (s.init = .uninitialized ∨ s.cfg.allowReinit = true)

/-- Every request still to come is a host request, the only kind issuable from outside (00_scope.md R2). -/
def State.hostOnly (s : State) : Prop := ∀ r ∈ s.script, r.isHost = true

/-- Between operations (10_state.md R36). Before SETUP the pins are as reset left them and nothing has been sent; from
then on (a) the pins are outputs, (b) chip-select is high, (c) the clock is low, (d) data is the last bit of the last
frame, and, unless a malformed flag byte was sent (V4), (e) the last display-control byte on the link is `pack(DCR)`.
`Initializing` is not seen between operations (10_state.md R25). -/
def State.settled (s : State) : Prop :=
  (Receiver.start.run s.trace).frame = none ∧
  match s.init with
  | .uninitialized =>
    s.oe = { sel := false, clk := false, dat := false } ∧ s.lvl = { sel := none, clk := none, dat := none } ∧ s.trace = []
  | .initializing => False
  | .ready =>
    s.oe = { sel := true, clk := true, dat := true } ∧ s.lvl.sel = some true ∧ s.lvl.clk = some false ∧
    (∃ m v, (framesOf s.trace).getLast? = some ((encodeFrame v m).map some) ∧ s.lvl.dat = some (v.getLsbD 0)) ∧
    (s.marks.malformedFlags = false → lastDisplayControl s.trace = some (pack s.dcr))

/-- Operations run one after the other, stopping at the first that stops (20_memory.md R50). -/
def execAll : List Instr → State → Result
  | [], s => .next s
  | i :: is, s =>
    match exec i s with
    | .next t => execAll is t
    | .fault r => .fault r
    | .refused r => .refused r

/-- The flag a toggle writes and the value it gives it (42_display_register_state.md R113 to R118). -/
def toggleOf : Instr → Option (DcrFlag × Bool)
  | .setup => none
  | .clear => none
  | .home => none
  | .displayOn => some (.d, true)
  | .displayOff => some (.d, false)
  | .cursorOn => some (.c, true)
  | .cursorOff => some (.c, false)
  | .blinkOn => some (.b, true)
  | .blinkOff => some (.b, false)
  | .setCursor _ _ => none
  | .setEntryMode _ => none
  | .setFunctionSet _ => none
  | .write _ => none
  | .cmdClearDisplay => none
  | .cmdReturnHome => none
  | .cmdEntryModeSet _ _ => none
  | .cmdDisplayControl _ _ _ => none
  | .cmdFunctionSet _ => none
  | .cmdSetDdramAddress _ => none
  | .frameCommand _ => none
  | .frameData _ => none

/-- The byte each operation of 42_display_register_state.md sends, given `DCR` after it; none for any other operation. -/
def registerByte (dcr : Dcr) : Instr → Option Byte
  | .setup => none
  | .clear => none
  | .home => none
  | .displayOn => some (pack dcr)
  | .displayOff => some (pack dcr)
  | .cursorOn => some (pack dcr)
  | .cursorOff => some (pack dcr)
  | .blinkOn => some (pack dcr)
  | .blinkOff => some (pack dcr)
  | .setCursor _ _ => none
  | .setEntryMode flags => some (0x04 ||| flags)
  | .setFunctionSet flags => some (0x38 ||| flags)
  | .write _ => none
  | .cmdClearDisplay => none
  | .cmdReturnHome => none
  | .cmdEntryModeSet _ _ => none
  | .cmdDisplayControl _ _ _ => none
  | .cmdFunctionSet _ => none
  | .cmdSetDdramAddress _ => none
  | .frameCommand _ => none
  | .frameData _ => none

/-- `DCR` after one operation of 42_display_register_state.md. -/
def dcrAfter (dcr : Dcr) (i : Instr) : Dcr :=
  match toggleOf i with
  | some (flag, v) => dcr.set flag v
  | none => dcr

/-- A flag's value after a sequence of toggles: that of the last toggle that names it, or its old value (R121(a)). -/
def lastToggle (flag : DcrFlag) (old : Bool) (ops : List Instr) : Bool :=
  match ((ops.filterMap toggleOf).filter fun x => x.1 = flag).getLast? with
  | some x => x.2
  | none => old

/-- The trace R121(c), (d) gives a sequence of operations of 42_display_register_state.md: one COMMAND frame and one
`Wait(500)` each, a toggle's byte being `pack` of `DCR` right after it. -/
def registerTrace (cfg : Config) : Dcr → List Instr → List Event
  | _, [] => []
  | dcr, i :: is =>
    (match registerByte (dcrAfter dcr i) i with
     | some b => sendTrace cfg b .command ++ [.wait 500]
     | none => []) ++ registerTrace cfg (dcrAfter dcr i) is

/-- The number of events and the least time of an operation or of a bare frame (the table of 70_reset_and_hazards.md R195),
by `SETTLE_PER_CYCLE`. -/
def timing (settlePerCycle : Bool) : Instr → Nat × Nat
  | .setup => if settlePerCycle then (372, 510600) else (327, 506100)
  | .clear => if settlePerCycle then (73, 3020) else (64, 2120)
  | .home => if settlePerCycle then (73, 3020) else (64, 2120)
  | .displayOn => if settlePerCycle then (73, 1520) else (64, 620)
  | .displayOff => if settlePerCycle then (73, 1520) else (64, 620)
  | .cursorOn => if settlePerCycle then (73, 1520) else (64, 620)
  | .cursorOff => if settlePerCycle then (73, 1520) else (64, 620)
  | .blinkOn => if settlePerCycle then (73, 1520) else (64, 620)
  | .blinkOff => if settlePerCycle then (73, 1520) else (64, 620)
  | .setCursor _ _ => if settlePerCycle then (72, 1020) else (63, 120)
  | .setEntryMode _ => if settlePerCycle then (73, 1520) else (64, 620)
  | .setFunctionSet _ => if settlePerCycle then (73, 1520) else (64, 620)
  | .write _ => if settlePerCycle then (72, 1020) else (63, 120)
  | .cmdClearDisplay => if settlePerCycle then (72, 1020) else (63, 120)
  | .cmdReturnHome => if settlePerCycle then (72, 1020) else (63, 120)
  | .cmdEntryModeSet _ _ => if settlePerCycle then (72, 1020) else (63, 120)
  | .cmdDisplayControl _ _ _ => if settlePerCycle then (72, 1020) else (63, 120)
  | .cmdFunctionSet _ => if settlePerCycle then (72, 1020) else (63, 120)
  | .cmdSetDdramAddress _ => if settlePerCycle then (72, 1020) else (63, 120)
  | .frameCommand _ => if settlePerCycle then (72, 1020) else (63, 120)
  | .frameData _ => if settlePerCycle then (72, 1020) else (63, 120)

/-- The invariant of every state of a run of host operations: what R36 says holds now, or, while an operation is in
progress, holds once it has completed. -/
def State.Inv (s : State) : Prop := s.hostOnly ∧ s.completed.settled

end Sys2Proof.Machine
end

