-- ==== Sys2Proof/Certificates/Slice0/Obligations.lean ====
section
/-!
DEFINITION. The statements for the provers. Each docstring names the rule of spec/ it formalises. Register values, bytes and
durations are written out as the rules give them. Every result statement is an equation whose right side is a record update
of the state before, so it is also the instruction's frame: every field it does not name is unchanged.
-/

open Sys2Proof Sys2Proof.Machine

/-! ### Reset, registers, pins -/

/-- R180: reset sets `DCR`, `INIT`, `OE`, `LVL` and `SEQ`, emits no event, and nothing runs until the host issues an
operation. -/
def Obligations.ResetIsConstruction : Prop :=
  State.reset.dcr = { d := true, c := false, b := false } ∧
  State.reset.init = .uninitialized ∧
  State.reset.oe = { sel := false, clk := false, dat := false } ∧
  State.reset.lvl = { sel := none, clk := none, dat := none } ∧
  State.reset.seq = .idle ∧
  State.reset.trace = [] ∧
  ∃ t, step State.reset = .next t ∧ t.trace = [] ∧ t.seq = .idle ∧ t.dcr = State.reset.dcr ∧ t.init = .uninitialized ∧
    t.oe = State.reset.oe ∧ t.lvl = State.reset.lvl

/-- R22: `pack(DCR)` is `0b00001DCB`, always in 0x08 to 0x0F, and `unpack` is its inverse on that range. -/
def Obligations.PackIsTheDisplayControlByte : Prop :=
  (∀ r : Dcr, pack r = 0x08#8 ||| (if r.d then 0x04#8 else 0#8) ||| (if r.c then 0x02#8 else 0#8) ||| (if r.b then 0x01#8 else 0#8)) ∧
  (∀ r : Dcr, 0x08#8 ≤ pack r ∧ pack r ≤ 0x0F#8 ∧ unpack (pack r) = r) ∧
  (∀ v : Byte, 0x08#8 ≤ v → v ≤ 0x0F#8 →
    pack (unpack v) = v ∧ unpack v = { d := v.getLsbD 2, c := v.getLsbD 1, b := v.getLsbD 0 })

/-- R27 (and R26 for `OE`): what each event does to `OE` and `LVL`, the reset values, and the electrical level of a pin. -/
def Obligations.EventsMovePinRegisters : Prop :=
  (∀ p : Pin, State.reset.lvl.get p = none ∧ State.reset.oe.get p = false) ∧
  (∀ (s : State) (p q : Pin), (s.emit [.mode p]).oe.get q = (if q = p then true else s.oe.get q) ∧ (s.emit [.mode p]).lvl = s.lvl) ∧
  (∀ (s : State) (p q : Pin) (l : Level),
    (s.emit [.drive p l]).lvl.get q = (if q = p then some l else s.lvl.get q) ∧ (s.emit [.drive p l]).oe = s.oe) ∧
  (∀ (s : State) (n : Nat), (s.emit [.wait n]).oe = s.oe ∧ (s.emit [.wait n]).lvl = s.lvl) ∧
  (∀ (s : State) (e : Event), (s.emit [e]).trace = s.trace ++ [e]) ∧
  (∀ (s : State) (p : Pin) (l : Level),
    (s.oe.get p = true → s.lvl.get p = some l → s.electrical p = .driven l) ∧
    (s.oe.get p = true → s.lvl.get p = none → s.electrical p = .unspecified) ∧
    (s.oe.get p = false → s.electrical p = .notDriven))

/-- R41: the row-offset table, the draw at index 4 with V3 recorded, the refusal from 5 on. Reads 0 to 3 change nothing. That
a draw is the free value at the model's own counter `draws`, which then advances, is the model's choice (log 8). -/
def Obligations.RotReadIsTheTable : Prop :=
  ∀ s : State,
    s.rotRead 0 = .ok (0x00, s) ∧ s.rotRead 1 = .ok (0x40, s) ∧ s.rotRead 2 = .ok (0x14, s) ∧ s.rotRead 3 = .ok (0x54, s) ∧
    s.rotRead 4 = .ok (Config.row4Offset s.draws,
      { s with draws := s.draws + 1, marks := { s.marks with rowIndexPastTable := true } }) ∧
    ∀ i : Byte, 5#8 ≤ i → s.rotRead i = .error .rotIndexBeyondTable

/-! ### Encodings -/

/-- A sanity check of the decoder on words written out from the spec (the listing of host request words in
95_test_vectors.md family H, the frames of F, the command bytes of R65). -/
def Obligations.DecodeReadsWrittenOutWords : Prop :=
  decode (.host 0x00000) = .ok .setup ∧
  decode (.host 0x30000) = .ok .displayOn ∧
  decode (.host 0x90502) = .ok (.setCursor 5 2) ∧
  decode (.host 0xA0200) = .ok (.setEntryMode 0x02) ∧
  decode (.host 0xC41FF) = .ok (.write 0x41) ∧
  decode (.command 0b00000110) = .ok (.cmdEntryModeSet true false) ∧
  decode (.command 0b00001101) = .ok (.cmdDisplayControl true false true) ∧
  decode (.command 0b10011001) = .ok (.cmdSetDdramAddress 0x19) ∧
  decode (.frame 0b1001000001) = .ok (.frameData 0x41) ∧
  decode (.frame 0b0010011001) = .ok (.frameCommand 0x99)

/-- Decode and encode agree on every instruction, every operand at every value of its field (R61, R65, R66, R72). -/
def Obligations.DecodeOfEncodeIsTheInstruction : Prop :=
  ∀ i : Instr, decode (encode i) = .ok i

/-- At the two layers that have no ignored fields, each word has one meaning: a word that decodes is the encoding of what it
decodes to (R61, R65). -/
def Obligations.LinkWordsHaveOneMeaning : Prop :=
  ∀ (r : Request) (i : Instr), r.isHost = false → decode r = .ok i → encode i = r

/-- R72: the table of host requests, with every value of every field. -/
def Obligations.HostRequestTable : Prop :=
  ∀ a b : Byte,
    decode (.host (0x0#4 ++ a ++ b)) = .ok .setup ∧
    decode (.host (0x1#4 ++ a ++ b)) = .ok .clear ∧
    decode (.host (0x2#4 ++ a ++ b)) = .ok .home ∧
    decode (.host (0x3#4 ++ a ++ b)) = .ok .displayOn ∧
    decode (.host (0x4#4 ++ a ++ b)) = .ok .displayOff ∧
    decode (.host (0x5#4 ++ a ++ b)) = .ok .cursorOn ∧
    decode (.host (0x6#4 ++ a ++ b)) = .ok .cursorOff ∧
    decode (.host (0x7#4 ++ a ++ b)) = .ok .blinkOn ∧
    decode (.host (0x8#4 ++ a ++ b)) = .ok .blinkOff ∧
    decode (.host (0x9#4 ++ a ++ b)) = .ok (.setCursor a b) ∧
    decode (.host (0xA#4 ++ a ++ b)) = .ok (.setEntryMode a) ∧
    decode (.host (0xB#4 ++ a ++ b)) = .ok (.setFunctionSet a) ∧
    decode (.host (0xC#4 ++ a ++ b)) = .ok (.write a)

/-- R73: a request with a reserved `OP` is a refusal: no next state, so nothing is emitted and nothing changes.
That its name is reservedOp also when the pins are not distinct is the model's choice (log 32). -/
def Obligations.ReservedOpIsRefused : Prop :=
  ∀ (s : State) (a b : Byte) (op : BitVec 4) (rest : List Request),
    s.rst = false → s.seq = .idle → s.script = .host (op ++ a ++ b) :: rest → 0xD#4 ≤ op →
    step s = .refused .reservedOp

/-- R65, R68: the command bytes that name a family are those of the six legal ranges; a step on any other byte, or on a frame
whose second preamble bit is high, is refused (93_implementation_defined.md U11; log 27), under its own
name also when the pins are not distinct (log 32). -/
def Obligations.LinkWordsOutsideTheTablesAreRefused : Prop :=
  (∀ b : Byte, (∃ i, decode (.command b) = .ok i) ↔
    b = 0x01#8 ∨ b = 0x02#8 ∨ (0x04#8 ≤ b ∧ b ≤ 0x07#8) ∨ (0x08#8 ≤ b ∧ b ≤ 0x0F#8) ∨ (0x38#8 ≤ b ∧ b ≤ 0x3B#8) ∨ 0x80#8 ≤ b) ∧
  (∀ f : BitVec 10, (∃ i, decode (.frame f) = .ok i) ↔ f.getLsbD 8 = false) ∧
  (∀ (s : State) (b : Byte) (rest : List Request), s.rst = false → s.seq = .idle → s.script = .command b :: rest →
    (¬ ∃ i, decode (.command b) = .ok i) → step s = .refused .unassignedCommandByte) ∧
  (∀ (s : State) (f : BitVec 10) (rest : List Request), s.rst = false → s.seq = .idle → s.script = .frame f :: rest →
    f.getLsbD 8 = true → step s = .refused .reservedPreamble)

/-- R62: `encodeFrame` is the mode bit, a low bit, and the byte most significant bit first; as a 10-bit number with position 0
as bit 9 it is `0x200 | v` for DATA and `v` for COMMAND, and the frame decoder reads mode and byte back. -/
def Obligations.FrameIsPreambleThenByte : Prop :=
  (∀ v : Byte, encodeFrame v .data = [true, false] ++ (List.range 8).map fun k => v.getLsbD (7 - k)) ∧
  (∀ v : Byte, encodeFrame v .command = [false, false] ++ (List.range 8).map fun k => v.getLsbD (7 - k)) ∧
  (∀ v : Byte, decode (.frame (0x200#10 ||| v.setWidth 10)) = .ok (.frameData v) ∧
    (List.range 10).map (fun k => (0x200#10 ||| v.setWidth 10).getLsbD (9 - k)) = encodeFrame v .data) ∧
  (∀ v : Byte, decode (.frame (v.setWidth 10)) = .ok (.frameCommand v) ∧
    (List.range 10).map (fun k => (v.setWidth 10 : BitVec 10).getLsbD (9 - k)) = encodeFrame v .command) ∧
  (∀ (v : Byte) (m : TxMode), readFrame ((encodeFrame v m).map some) = some (m, v))

/-! ### One step -/

/-- A step runs the decoded instruction: out of reset and idle, with the request r on the port, step is exec of r's
instruction on the state in which the request is taken off the port and the response pulse has ended; the latches sample the
fields `A` and `B` of a host request and are unchanged by a word of an inner layer (R74, R30; log 7, 11). -/
def Obligations.StepRunsDecodedInstruction : Prop :=
  ∀ (s : State) (rest : List Request) (i : Instr), s.rst = false → s.seq = .idle →
    (∀ w : BitVec 20, s.script = .host w :: rest → decode (.host w) = .ok i →
      step s = exec i { s with
        script := rest, respValid := false, respCount := none
        latchA := w.extractLsb' 8 8, latchB := w.extractLsb' 0 8 }) ∧
    (∀ r : Request, s.script = r :: rest → r.isHost = false → decode r = .ok i →
      step s = exec i { s with script := rest, respValid := false, respCount := none })

/-- With no request on the port the block waits and its response pulse ends (R180, R74; the length of the pulse is the
model's, log 19). -/
def Obligations.IdleStepWaitsForTheHost : Prop :=
  ∀ s : State, s.rst = false → s.seq = .idle → s.script = [] →
    step s = .next { s with respValid := false, respCount := none }

/-- R30: the latches are sampled once, at acceptance, in the atomic and in the micro-step view, and no step changes them while
the operation is in progress. -/
def Obligations.OperandLatchesSampleOnce : Prop :=
  (∀ (s t : State) (w : BitVec 20) (rest : List Request), s.rst = false → s.seq = .idle → s.script = .host w :: rest →
    (step s = .next t ∨ stepMicro s = .next t) → t.latchA = w.extractLsb' 8 8 ∧ t.latchB = w.extractLsb' 0 8) ∧
  (∀ s t : State, s.seq ≠ .idle → (step s = .next t ∨ stepMicro s = .next t) → t.latchA = s.latchA ∧ t.latchB = s.latchB)

/-- R181: RST asserted while idle gives the values of R180 and accepts no request; asserted while an operation is in progress
it is V7 and refused (R163, decision D20). What else the model keeps or clears then is log 17; that V7 is
reported also when the pins are not distinct is log 32. -/
def Obligations.ResetInputHoldsOrRefuses : Prop :=
  (∀ s : State, s.rst = true → s.seq = .idle → ∃ t, step s = .next t ∧
    t.dcr = { d := true, c := false, b := false } ∧ t.init = .uninitialized ∧
    t.oe = { sel := false, clk := false, dat := false } ∧ t.lvl = { sel := none, clk := none, dat := none } ∧
    t.seq = .idle ∧ t.script = s.script ∧ t.cfg = s.cfg) ∧
  (∀ (s : State) (i : Instr) (k : Nat) (events : List Event), s.rst = true → s.seq = .busy i k events →
    step s = .refused .resetDuringOperation)

/-- R29: in `Busy(op, k)` a step performs the event T[k] and moves to k + 1; when k is the length of T it delivers the return
value and goes back to Idle. SETUP's writes of INIT go with the event of index 5 and with the last. A request on the port
waits (R74). -/
def Obligations.BusyStepPerformsTheNextEvent : Prop :=
  ∀ (s : State) (i : Instr) (k : Nat) (events : List Event), s.rst = false → s.seq = .busy i k events →
    (∀ e, events[k]? = some e → ∃ t, step s = .next t ∧ t.seq = .busy i (k + 1) events ∧
      t.trace = s.trace ++ [e] ∧ t.oe = Event.onOe s.oe e ∧ t.lvl = Event.onLvl s.lvl e ∧ t.script = s.script ∧
      (i ≠ .setup → t.dcr = s.dcr ∧ t.init = s.init) ∧
      (i = .setup → t.init = if k + 1 = events.length then .ready else if k = 5 then .initializing else s.init)) ∧
    (k = events.length → ∃ t, step s = .next t ∧ t.seq = .idle ∧
      t.trace = s.trace ∧ t.oe = s.oe ∧ t.lvl = s.lvl ∧ t.script = s.script ∧ t.dcr = s.dcr ∧ t.init = s.init ∧
      (i.isHostOp = true → t.respValid = true ∧ ∀ n, t.respCount = some n ↔ (∃ ch, i = .write ch) ∧ n = 1))

/-- V1 (60_exceptions.md R163, R164): the operation is refused when it is issued with INIT not Ready. -/
def Sys2Proof.Machine.RefusedBeforeReady (i : Instr) : Prop :=
  ∀ s : State, s.seq = .idle → s.cfg.pinsDistinct = true → s.init ≠ .ready → exec i s = .refused .opBeforeReady

/-! ### Results: the thirteen operations -/

/-- R113, R114: DISPLAY_ON and DISPLAY_OFF write the flag D, send the full register and settle 500 µs. Before Ready each is
refused (V1). -/
def Obligations.DisplayTogglesResult : Prop :=
  (∀ s : State, s.acceptsOps →
    exec .displayOn s = .next { s with
      dcr := { s.dcr with d := true }
      lvl := { sel := some true, clk := some false, dat := some s.dcr.b }
      trace := s.trace ++ sendTrace s.cfg (0x0C#8 ||| (if s.dcr.c then 0x02#8 else 0#8) ||| (if s.dcr.b then 0x01#8 else 0#8)) .command ++ [.wait 500]
      respValid := true, respCount := none } ∧
    exec .displayOff s = .next { s with
      dcr := { s.dcr with d := false }
      lvl := { sel := some true, clk := some false, dat := some s.dcr.b }
      trace := s.trace ++ sendTrace s.cfg (0x08#8 ||| (if s.dcr.c then 0x02#8 else 0#8) ||| (if s.dcr.b then 0x01#8 else 0#8)) .command ++ [.wait 500]
      respValid := true, respCount := none }) ∧
  RefusedBeforeReady .displayOn ∧ RefusedBeforeReady .displayOff

/-- R115, R116: CURSOR_ON and CURSOR_OFF write the flag C, send the full register and settle 500 µs. Before Ready each is
refused (V1). -/
def Obligations.CursorTogglesResult : Prop :=
  (∀ s : State, s.acceptsOps →
    exec .cursorOn s = .next { s with
      dcr := { s.dcr with c := true }
      lvl := { sel := some true, clk := some false, dat := some s.dcr.b }
      trace := s.trace ++ sendTrace s.cfg (0x0A#8 ||| (if s.dcr.d then 0x04#8 else 0#8) ||| (if s.dcr.b then 0x01#8 else 0#8)) .command ++ [.wait 500]
      respValid := true, respCount := none } ∧
    exec .cursorOff s = .next { s with
      dcr := { s.dcr with c := false }
      lvl := { sel := some true, clk := some false, dat := some s.dcr.b }
      trace := s.trace ++ sendTrace s.cfg (0x08#8 ||| (if s.dcr.d then 0x04#8 else 0#8) ||| (if s.dcr.b then 0x01#8 else 0#8)) .command ++ [.wait 500]
      respValid := true, respCount := none }) ∧
  RefusedBeforeReady .cursorOn ∧ RefusedBeforeReady .cursorOff

/-- R117, R118: BLINK_ON and BLINK_OFF write the flag B, send the full register and settle 500 µs. Before Ready each is
refused (V1). -/
def Obligations.BlinkTogglesResult : Prop :=
  (∀ s : State, s.acceptsOps →
    exec .blinkOn s = .next { s with
      dcr := { s.dcr with b := true }
      lvl := { sel := some true, clk := some false, dat := some true }
      trace := s.trace ++ sendTrace s.cfg (0x09#8 ||| (if s.dcr.d then 0x04#8 else 0#8) ||| (if s.dcr.c then 0x02#8 else 0#8)) .command ++ [.wait 500]
      respValid := true, respCount := none } ∧
    exec .blinkOff s = .next { s with
      dcr := { s.dcr with b := false }
      lvl := { sel := some true, clk := some false, dat := some false }
      trace := s.trace ++ sendTrace s.cfg (0x08#8 ||| (if s.dcr.d then 0x04#8 else 0#8) ||| (if s.dcr.c then 0x02#8 else 0#8)) .command ++ [.wait 500]
      respValid := true, respCount := none }) ∧
  RefusedBeforeReady .blinkOn ∧ RefusedBeforeReady .blinkOff

/-- R119: SET_ENTRY_MODE sends `0x04 | flags` for every flag byte and settles 500 µs; `DCR` is not touched, and V4 is recorded
when the flags are not in 0x00 to 0x03. Before Ready it is refused (V1). -/
def Obligations.SetEntryModeResult : Prop :=
  (∀ (s : State) (flags : Byte), s.acceptsOps →
    exec (.setEntryMode flags) s = .next { s with
      lvl := { sel := some true, clk := some false, dat := some (flags.getLsbD 0) }
      marks := { s.marks with malformedFlags := s.marks.malformedFlags || decide (0x03#8 < flags) }
      trace := s.trace ++ sendTrace s.cfg (0x04#8 ||| flags) .command ++ [.wait 500]
      respValid := true, respCount := none }) ∧
  ∀ flags : Byte, RefusedBeforeReady (.setEntryMode flags)

/-- R120: SET_FUNCTION_SET sends `0x38 | flags` for every flag byte and settles 500 µs; `DCR` is not touched, and V4 is
recorded when the flags are not in 0x00 to 0x03. Before Ready it is refused (V1). -/
def Obligations.SetFunctionSetResult : Prop :=
  (∀ (s : State) (flags : Byte), s.acceptsOps →
    exec (.setFunctionSet flags) s = .next { s with
      lvl := { sel := some true, clk := some false, dat := some (flags.getLsbD 0) }
      marks := { s.marks with malformedFlags := s.marks.malformedFlags || decide (0x03#8 < flags) }
      trace := s.trace ++ sendTrace s.cfg (0x38#8 ||| flags) .command ++ [.wait 500]
      respValid := true, respCount := none }) ∧
  ∀ flags : Byte, RefusedBeforeReady (.setFunctionSet flags)

/-- R130: SET_CURSOR clamps rows above 4 to 3, adds the row's offset mod 256, sends `0x80 | address` and nothing more. Row 4
passes unclamped: its offset is the draw, whatever it is, and V3 is recorded; the counter `draws` that numbers the draw and
advances is the model's choice (log 8). Before Ready it is refused (V1). -/
def Obligations.SetCursorResult : Prop :=
  (∀ (s : State) (col row : Byte), s.acceptsOps →
    (row ≠ 4#8 →
      exec (.setCursor col row) s = .next { s with
        lvl := { sel := some true, clk := some false, dat := some (col.getLsbD 0) }
        trace := s.trace ++ sendTrace s.cfg (0x80#8 ||| (col + (if row = 0#8 then 0x00#8 else if row = 1#8 then 0x40#8
          else if row = 2#8 then 0x14#8 else 0x54#8))) .command
        respValid := true, respCount := none }) ∧
    (row = 4#8 →
      exec (.setCursor col row) s = .next { s with
        lvl := { sel := some true, clk := some false, dat := some ((col + Config.row4Offset s.draws).getLsbD 0) }
        marks := { s.marks with rowIndexPastTable := true }
        draws := s.draws + 1
        trace := s.trace ++ sendTrace s.cfg (0x80#8 ||| (col + Config.row4Offset s.draws)) .command
        respValid := true, respCount := none })) ∧
  ∀ col row : Byte, RefusedBeforeReady (.setCursor col row)

/-- R140, R141: CLEAR sends 0x01 and HOME sends 0x02, each followed by 2000 µs; neither touches `DCR`. Before Ready each is
refused (V1). -/
def Obligations.ClearAndHomeResult : Prop :=
  (∀ s : State, s.acceptsOps →
    exec .clear s = .next { s with
      lvl := { sel := some true, clk := some false, dat := some true }
      trace := s.trace ++ sendTrace s.cfg 0x01#8 .command ++ [.wait 2000]
      respValid := true, respCount := none } ∧
    exec .home s = .next { s with
      lvl := { sel := some true, clk := some false, dat := some false }
      trace := s.trace ++ sendTrace s.cfg 0x02#8 .command ++ [.wait 2000]
      respValid := true, respCount := none }) ∧
  RefusedBeforeReady .clear ∧ RefusedBeforeReady .home

/-- R142: SETUP's eight steps in their fixed order, from Uninitialized or, with ALLOW_REINIT, from any INIT; `DCR.D` becomes 1
and the other flags keep their values. It is refused otherwise (V2), and with pins that are not distinct (V8). The order of
the pins in steps 1 and 2 is R142's reading of the source (decision D9, log 20). -/
def Obligations.SetupResult : Prop :=
  (∀ s : State, s.acceptsSetup →
    exec .setup s = .next { s with
      dcr := { s.dcr with d := true }
      init := .ready
      oe := { sel := true, clk := true, dat := true }
      lvl := { sel := some true, clk := some false, dat := some false }
      trace := s.trace
        ++ [.mode .sel, .mode .clk, .mode .dat, .drive .sel true, .drive .clk true, .drive .dat false, .wait 500000]
        ++ sendTrace s.cfg (0x38#8 ||| s.cfg.fsDefault.setWidth 8) .command ++ [.wait 500]
        ++ sendTrace s.cfg (0x0C#8 ||| (if s.dcr.c then 0x02#8 else 0#8) ||| (if s.dcr.b then 0x01#8 else 0#8)) .command ++ [.wait 500]
        ++ sendTrace s.cfg 0x01#8 .command ++ [.wait 2000]
        ++ sendTrace s.cfg 0x02#8 .command ++ [.wait 2000]
        ++ sendTrace s.cfg 0x06#8 .command ++ [.wait 500]
      respValid := true, respCount := none }) ∧
  (∀ s : State, s.seq = .idle → s.cfg.pinsDistinct = true → s.init ≠ .uninitialized → s.cfg.allowReinit = false →
    exec .setup s = .refused .setupRepeated) ∧
  (∀ s : State, s.seq = .idle → s.cfg.pinsDistinct = false → exec .setup s = .refused .pinsNotDistinct)

/-- R150: WRITE sends one DATA frame, with no settle after it, and returns the constant 1. Before Ready it is refused (V1). -/
def Obligations.WriteResult : Prop :=
  (∀ (s : State) (character : Byte), s.acceptsOps →
    exec (.write character) s = .next { s with
      lvl := { sel := some true, clk := some false, dat := some (character.getLsbD 0) }
      trace := s.trace ++ sendTrace s.cfg character .data
      respValid := true, respCount := some 1 }) ∧
  ∀ character : Byte, RefusedBeforeReady (.write character)

/-! ### Results: command bytes and frames -/

/-- The six command-byte families put their byte (R65, R66, R22) on the link as one COMMAND frame, in any INIT, and change no
register but the pin levels. That a command byte stands for `command(value)` is the model's reading (DEDUCED, log 12, 13). -/
def Obligations.CommandBytesResult : Prop :=
  ∀ s : State, s.seq = .idle → s.cfg.pinsDistinct = true →
    exec .cmdClearDisplay s = .next { s with
      lvl := { sel := some true, clk := some false, dat := some true }
      trace := s.trace ++ sendTrace s.cfg 0x01#8 .command } ∧
    exec .cmdReturnHome s = .next { s with
      lvl := { sel := some true, clk := some false, dat := some false }
      trace := s.trace ++ sendTrace s.cfg 0x02#8 .command } ∧
    (∀ increment shiftRight : Bool, exec (.cmdEntryModeSet increment shiftRight) s = .next { s with
      lvl := { sel := some true, clk := some false, dat := some shiftRight }
      trace := s.trace ++ sendTrace s.cfg
        (0x04#8 ||| (if increment then 0x02#8 else 0#8) ||| (if shiftRight then 0x01#8 else 0#8)) .command }) ∧
    (∀ d c b : Bool, exec (.cmdDisplayControl d c b) s = .next { s with
      lvl := { sel := some true, clk := some false, dat := some b }
      trace := s.trace ++ sendTrace s.cfg
        (0x08#8 ||| (if d then 0x04#8 else 0#8) ||| (if c then 0x02#8 else 0#8) ||| (if b then 0x01#8 else 0#8)) .command }) ∧
    (∀ table : BitVec 2, exec (.cmdFunctionSet table) s = .next { s with
      lvl := { sel := some true, clk := some false, dat := some (table.getLsbD 0) }
      trace := s.trace ++ sendTrace s.cfg (0x38#8 ||| table.setWidth 8) .command }) ∧
    (∀ address : BitVec 7, exec (.cmdSetDdramAddress address) s = .next { s with
      lvl := { sel := some true, clk := some false, dat := some (address.getLsbD 0) }
      trace := s.trace ++ sendTrace s.cfg (0x80#8 ||| address.setWidth 8) .command })

/-- R101 at the frame encoder: a frame is one execution of `send`, in any INIT; `DCR` and `INIT` are untouched. That a frame
row stands for `send` is the model's reading (DEDUCED, log 12). -/
def Obligations.FramesResult : Prop :=
  ∀ (s : State) (v : Byte), s.seq = .idle → s.cfg.pinsDistinct = true →
    exec (.frameCommand v) s = .next { s with
      lvl := { sel := some true, clk := some false, dat := some (v.getLsbD 0) }
      trace := s.trace ++ sendTrace s.cfg v .command } ∧
    exec (.frameData v) s = .next { s with
      lvl := { sel := some true, clk := some false, dat := some (v.getLsbD 0) }
      trace := s.trace ++ sendTrace s.cfg v .data }

/-! ### Violations -/

/-- R163 V8 and R165: with two of the three pins the same every instruction is refused, and V8 is reported first whatever else
is wrong. -/
def Obligations.SharedPinsAreRefusedFirst : Prop :=
  ∀ (s : State) (i : Instr), s.seq = .idle →
    (s.cfg.pinSel = s.cfg.pinClk ∨ s.cfg.pinSel = s.cfg.pinDat ∨ s.cfg.pinClk = s.cfg.pinDat) →
    exec i s = .refused .pinsNotDistinct

/-- R74: a request presented while BUSY waits: no instruction has any effect on a busy block. -/
def Obligations.RequestsWaitWhileBusy : Prop :=
  ∀ (s : State) (i : Instr), s.seq ≠ .idle → exec i s = .next s ∧ acceptMicro i s = .next s

/-- R162, R167: a violation mark is never cleared by an operation, and only V3 and V4 are ever set, by the operand conditions
of R163 (row 4; flags above 0x03). -/
def Obligations.MarksAreSetByTheirConditionsAndKept : Prop :=
  ∀ (s t : State) (i : Instr), s.seq = .idle → exec i s = .next t →
    (t.marks.rowIndexPastTable = true ↔ s.marks.rowIndexPastTable = true ∨ ∃ col, i = .setCursor col 4#8) ∧
    (t.marks.malformedFlags = true ↔ s.marks.malformedFlags = true ∨
      ∃ flags, 0x03#8 < flags ∧ (i = .setEntryMode flags ∨ i = .setFunctionSet flags))

/-! ### The link -/

/-- R90, R91, R100: the events of a clock cycle, of a byte and of a preamble, in order, for both values of SETTLE_PER_CYCLE,
what each leaves in `LVL`, and the least time of each. That the data drive comes first in a cycle is R90's reading of the
source (decision D8, log 20). -/
def Obligations.LinkPrimitivesEmitTheirEvents : Prop :=
  (∀ (cfg : Config) (b : Level) (lvl : PerPin (Option Level)),
    clockBit cfg b = [.drive .dat b, .drive .clk false, .wait 1, .drive .clk true, .wait 1, .drive .clk false]
      ++ (if cfg.settlePerCycle then [.wait 100] else []) ∧
    (clockBit cfg b).foldl Event.onLvl lvl = { lvl with clk := some false, dat := some b } ∧
    minTime (clockBit cfg b) = if cfg.settlePerCycle then 102 else 2) ∧
  (∀ (cfg : Config) (v : Byte) (lvl : PerPin (Option Level)),
    shiftByte cfg v = clockBit cfg (v.getLsbD 7) ++ clockBit cfg (v.getLsbD 6) ++ clockBit cfg (v.getLsbD 5)
      ++ clockBit cfg (v.getLsbD 4) ++ clockBit cfg (v.getLsbD 3) ++ clockBit cfg (v.getLsbD 2) ++ clockBit cfg (v.getLsbD 1)
      ++ clockBit cfg (v.getLsbD 0) ++ (if cfg.settlePerCycle then [] else [.wait 100]) ∧
    (shiftByte cfg v).foldl Event.onLvl lvl = { lvl with clk := some false, dat := some (v.getLsbD 0) } ∧
    ((shiftByte cfg v).length, minTime (shiftByte cfg v)) = if cfg.settlePerCycle then (56, 816) else (49, 116)) ∧
  (∀ (cfg : Config) (m : TxMode) (lvl : PerPin (Option Level)),
    preamble cfg m = clockBit cfg (decide (m = .data)) ++ clockBit cfg false ∧
    (preamble cfg m).foldl Event.onLvl lvl = { lvl with clk := some false, dat := some false } ∧
    minTime (preamble cfg m) = if cfg.settlePerCycle then 204 else 4)

/-- R101: `send` is chip-select low, preamble, byte, chip-select high, from any state; it leaves `LVL` at (1, 0,
value[0]) and touches no other register; its trace has 72 events and takes at least 1020 µs (63 and 120 with
SETTLE_PER_CYCLE false). -/
def Obligations.SendIsOneTransaction : Prop :=
  ∀ (s : State) (v : Byte) (m : TxMode),
    s.send v m = { s with
      lvl := { sel := some true, clk := some false, dat := some (v.getLsbD 0) }
      trace := s.trace ++ [.drive .sel false] ++ preamble s.cfg m ++ shiftByte s.cfg v ++ [.drive .sel true] } ∧
    ((sendTrace s.cfg v m).length, minTime (sendTrace s.cfg v m)) = if s.cfg.settlePerCycle then (72, 1020) else (63, 120)

/-- R103 (a), (b): a transaction drives chip-select exactly twice, low first and high last, and raises the clock exactly ten
times, all between the two. -/
def Obligations.SelectBracketsTenClockPulses : Prop :=
  ∀ (cfg : Config) (v : Byte) (m : TxMode), ∃ body : List Event,
    sendTrace cfg v m = .drive .sel false :: (body ++ [.drive .sel true]) ∧
    (∀ l : Level, Event.drive .sel l ∉ body) ∧
    body.count (.drive .clk true) = 10

/-- R64, R92, R103 (c): a receiver that is between frames recovers from a transaction exactly one more frame,
`encodeFrame(v, mode)`, and is between frames again. -/
def Obligations.ReceiverRecoversTheFrame : Prop :=
  ∀ (r : Receiver) (cfg : Config) (v : Byte) (m : TxMode), r.frame = none →
    r.run (sendTrace cfg v m) =
      { lvl := { sel := some true, clk := some false, dat := some (v.getLsbD 0) }
        frame := none
        frames := r.frames ++ [(encodeFrame v m).map some] }

/-- R102, R121(d), R143(c): SETUP sends five frames and every other instruction one; WRITE and the data frame use DATA mode
and nothing else does; `command` is `send` in COMMAND mode. -/
def Obligations.FramesPerInstructionAndTheirMode : Prop :=
  (∀ (s : State) (v : Byte), s.command v = s.send v .command) ∧
  ∀ (s t : State) (i : Instr) (r : Receiver), s.seq = .idle → exec i s = .next t → r.frame = none →
    ∃ (events : List Event) (sent : List (TxMode × Byte)), t.trace = s.trace ++ events ∧ (r.run events).frame = none ∧
      (r.run events).frames = r.frames ++ sent.map (fun x => (encodeFrame x.2 x.1).map some) ∧
      sent.length = (if i = .setup then 5 else 1) ∧
      ∀ x ∈ sent, (x.1 = TxMode.data ↔ (∃ ch, i = .write ch) ∨ ∃ v, i = .frameData v)

/-- R195: the event counts and the least times of every operation, for both values of SETTLE_PER_CYCLE. -/
def Obligations.OperationsTakeTheirStatedTime : Prop :=
  ∀ (s t : State) (i : Instr), s.seq = .idle → exec i s = .next t →
    ∃ events : List Event, t.trace = s.trace ++ events ∧ (events.length, minTime events) = timing s.cfg.settlePerCycle i

/-- R196: timing does not depend on data: the same operation takes the same events and the same waits in the same order, for
every operand and every `DCR` (in any two states with the same SETTLE_PER_CYCLE). -/
def Obligations.TimingDoesNotDependOnData : Prop :=
  ∀ (s t s' t' : State) (i i' : Instr) (events events' : List Event),
    s.cfg.settlePerCycle = s'.cfg.settlePerCycle → i.ctorIdx = i'.ctorIdx →
    s.seq = .idle → exec i s = .next t → t.trace = s.trace ++ events →
    s'.seq = .idle → exec i' s' = .next t' → t'.trace = s'.trace ++ events' →
    events.length = events'.length ∧ waitsOf events = waitsOf events'

/-- R90 corner cases (a) to (c), R191: the waveform of a clock cycle, its trace without the drives to a level the pin has
(decision D17). With the clock low, as every cycle leaves it, the opening `Drive(CLK, 0)` moves nothing; with the clock high,
as SETUP step 2 leaves it, it is a falling edge. -/
def Obligations.ClockCycleWaveform : Prop :=
  ∀ (cfg : Config) (b : Level) (lvl : PerPin (Option Level)),
    let settle : List Event := if cfg.settlePerCycle then [.wait 100] else []
    let data : List Event := if lvl.dat = some b then [] else [.drive .dat b]
    (lvl.clk = some false →
      waveformFrom lvl (clockBit cfg b) = data ++ [.wait 1, .drive .clk true, .wait 1, .drive .clk false] ++ settle) ∧
    (lvl.clk = some true →
      waveformFrom lvl (clockBit cfg b) =
        data ++ [.drive .clk false, .wait 1, .drive .clk true, .wait 1, .drive .clk false] ++ settle)

/-! ### The whole machine -/

/-- R25, R26, R143 (a): only SETUP changes INIT or an output enable, and only SETUP emits `Mode` events. -/
def Obligations.OnlySetupChangesInitAndOutputEnables : Prop :=
  ∀ (s t : State) (i : Instr), i ≠ .setup → exec i s = .next t →
    t.init = s.init ∧ t.oe = s.oe ∧
    ∃ events : List Event, t.trace = s.trace ++ events ∧ ∀ p : Pin, Event.mode p ∉ events

/-- R23: `DCR` is read and written by the six toggles and by SETUP only: with any other instruction, another `DCR` before
changes nothing but the same `DCR` after. -/
def Obligations.DcrIsTheTogglesAlone : Prop :=
  ∀ (s t : State) (i : Instr) (dcr : Dcr), i ≠ .setup → toggleOf i = none → exec i s = .next t →
    exec i { s with dcr := dcr } = .next { t with dcr := dcr }

/-- R34: no step changes the configuration. -/
def Obligations.NoStepChangesTheConfiguration : Prop :=
  ∀ s t : State, (step s = .next t ∨ stepMicro s = .next t) → t.cfg = s.cfg

/-- R50: out of reset a step only adds events to the trace of the run, and the requests that wait keep their order. -/
def Obligations.StepsOnlyExtendTheTrace : Prop :=
  ∀ s t : State, s.rst = false → (step s = .next t ∨ stepMicro s = .next t) →
    s.trace <+: t.trace ∧ t.script <:+ s.script

/-- R121: over any sequence of toggles, SET_ENTRY_MODE and SET_FUNCTION_SET from Ready: (a), (b) each flag of `DCR` ends with
the value of the last toggle that names it, or its old value; (c), (d) each operation sends one COMMAND frame and waits 500
µs, and a toggle's byte is `pack` of `DCR` right after it. -/
def Obligations.RegisterSequencesFollowTheLastToggle : Prop :=
  ∀ (ops : List Instr) (s : State), s.acceptsOps → (∀ i ∈ ops, (registerByte s.dcr i).isSome = true) →
    ∃ t, execAll ops s = .next t ∧ t.acceptsOps ∧
      t.dcr = { d := lastToggle .d s.dcr.d ops, c := lastToggle .c s.dcr.c ops, b := lastToggle .b s.dcr.b ops } ∧
      t.trace = s.trace ++ registerTrace s.cfg s.dcr ops

/-- R29, R112, decision D30: in the micro-step view a request is accepted into `Busy(op, 0)`; acceptance makes a toggle's
write of `DCR` and no other register write, before the first event: nothing is emitted and the pins, INIT and the response
are untouched. -/
def Obligations.MicroAcceptanceWritesTheRegisterFirst : Prop :=
  (∀ (s : State) (r : Request) (rest : List Request) (i : Instr), s.rst = false → s.seq = .idle → s.script = r :: rest →
    decode r = .ok i → stepMicro s = acceptMicro i (s.take r rest)) ∧
  (∀ (s t : State) (i : Instr), s.seq = .idle → acceptMicro i s = .next t →
    ∃ events, t.seq = .busy i 0 events ∧ t.dcr = dcrAfter s.dcr i ∧
      t.init = s.init ∧ t.oe = s.oe ∧ t.lvl = s.lvl ∧ t.trace = s.trace ∧ t.respValid = s.respValid ∧ t.respCount = s.respCount)

/-- R29: the micro-steps compose to the atomic transition: acceptance into `SEQ` followed by one step for each event and one
for the delivery gives what exec gives at once, and acceptance refuses exactly when exec does. -/
def Obligations.MicroStepsComposeToTheOperation : Prop :=
  ∀ (s : State) (i : Instr), s.seq = .idle → s.rst = false →
    (∀ t, exec i s = .next t → ∃ s1 events, acceptMicro i s = .next s1 ∧ s1.seq = .busy i 0 events ∧
      Host.Core.run Sys2Proof.core (events.length + 1) s1 = .next t) ∧
    (∀ r, exec i s = .refused r ↔ acceptMicro i s = .refused r)

/-- The invariant of R36 holds at reset. -/
def Obligations.InvariantHoldsAtReset : Prop := State.reset.Inv

/-- R36: every step keeps the invariant: between operations chip-select is high, the clock low, the pins outputs, data at the
last bit of the last frame, and the last display-control byte on the link is `pack(DCR)` unless a malformed flag byte was
sent; before SETUP nothing has been driven. -/
def Obligations.EveryStepKeepsTheInvariant : Prop :=
  ∀ s t : State, s.Inv → step s = .next t → t.Inv

/-- R36, R176, R182: from reset, under any configuration with distinct pins, SETUP followed by any list of host operations
other than SETUP with legal operands runs to a good end: Idle, no request left, no violation, Ready, the pins at their idle
levels. -/
def Obligations.LegalSessionsReachAGoodEnd : Prop :=
  ∀ (cfg : Config) (ops : List Instr), cfg.pinsDistinct = true →
    (∀ i ∈ ops, i.isHostOp = true ∧ i ≠ .setup ∧ i.wellFormed = true) →
    ∃ t, Host.Core.run Sys2Proof.core (ops.length + 1)
        { State.reset with cfg := cfg, script := (Instr.setup :: ops).map encode } = .next t ∧
      t.goodEnd = true ∧ t.init = .ready ∧ t.oe = { sel := true, clk := true, dat := true } ∧
      t.lvl.sel = some true ∧ t.lvl.clk = some false ∧ lastDisplayControl t.trace = some (pack t.dcr)
end

