-- ==== Sys2Proof/Laws/State.lean ====
section
/-!
SUPPORT. One lemma per field per update, true by rfl, so that no proof unfolds a record update; and the equation of each
update that `take` makes.
-/

namespace Sys2Proof.Machine

section

variable (s : State)

/-! ### `State.setFlag` -/

@[simp] theorem State.setFlag_cfg (flag : DcrFlag) (v : Bool) : (s.setFlag flag v).cfg = s.cfg := rfl
@[simp] theorem State.setFlag_dcr (flag : DcrFlag) (v : Bool) : (s.setFlag flag v).dcr = s.dcr.set flag v := rfl
@[simp] theorem State.setFlag_init (flag : DcrFlag) (v : Bool) : (s.setFlag flag v).init = s.init := rfl
@[simp] theorem State.setFlag_oe (flag : DcrFlag) (v : Bool) : (s.setFlag flag v).oe = s.oe := rfl
@[simp] theorem State.setFlag_lvl (flag : DcrFlag) (v : Bool) : (s.setFlag flag v).lvl = s.lvl := rfl
@[simp] theorem State.setFlag_seq (flag : DcrFlag) (v : Bool) : (s.setFlag flag v).seq = s.seq := rfl
@[simp] theorem State.setFlag_latchA (flag : DcrFlag) (v : Bool) : (s.setFlag flag v).latchA = s.latchA := rfl
@[simp] theorem State.setFlag_latchB (flag : DcrFlag) (v : Bool) : (s.setFlag flag v).latchB = s.latchB := rfl
@[simp] theorem State.setFlag_respValid (flag : DcrFlag) (v : Bool) : (s.setFlag flag v).respValid = s.respValid := rfl
@[simp] theorem State.setFlag_respCount (flag : DcrFlag) (v : Bool) : (s.setFlag flag v).respCount = s.respCount := rfl
@[simp] theorem State.setFlag_marks (flag : DcrFlag) (v : Bool) : (s.setFlag flag v).marks = s.marks := rfl
@[simp] theorem State.setFlag_trace (flag : DcrFlag) (v : Bool) : (s.setFlag flag v).trace = s.trace := rfl
@[simp] theorem State.setFlag_draws (flag : DcrFlag) (v : Bool) : (s.setFlag flag v).draws = s.draws := rfl
@[simp] theorem State.setFlag_script (flag : DcrFlag) (v : Bool) : (s.setFlag flag v).script = s.script := rfl
@[simp] theorem State.setFlag_rst (flag : DcrFlag) (v : Bool) : (s.setFlag flag v).rst = s.rst := rfl

/-! ### `State.setInit` -/

@[simp] theorem State.setInit_cfg (i : Init) : (s.setInit i).cfg = s.cfg := rfl
@[simp] theorem State.setInit_dcr (i : Init) : (s.setInit i).dcr = s.dcr := rfl
@[simp] theorem State.setInit_init (i : Init) : (s.setInit i).init = i := rfl
@[simp] theorem State.setInit_oe (i : Init) : (s.setInit i).oe = s.oe := rfl
@[simp] theorem State.setInit_lvl (i : Init) : (s.setInit i).lvl = s.lvl := rfl
@[simp] theorem State.setInit_seq (i : Init) : (s.setInit i).seq = s.seq := rfl
@[simp] theorem State.setInit_latchA (i : Init) : (s.setInit i).latchA = s.latchA := rfl
@[simp] theorem State.setInit_latchB (i : Init) : (s.setInit i).latchB = s.latchB := rfl
@[simp] theorem State.setInit_respValid (i : Init) : (s.setInit i).respValid = s.respValid := rfl
@[simp] theorem State.setInit_respCount (i : Init) : (s.setInit i).respCount = s.respCount := rfl
@[simp] theorem State.setInit_marks (i : Init) : (s.setInit i).marks = s.marks := rfl
@[simp] theorem State.setInit_trace (i : Init) : (s.setInit i).trace = s.trace := rfl
@[simp] theorem State.setInit_draws (i : Init) : (s.setInit i).draws = s.draws := rfl
@[simp] theorem State.setInit_script (i : Init) : (s.setInit i).script = s.script := rfl
@[simp] theorem State.setInit_rst (i : Init) : (s.setInit i).rst = s.rst := rfl

/-! ### `State.setSeq` -/

@[simp] theorem State.setSeq_cfg (q : Seq) : (s.setSeq q).cfg = s.cfg := rfl
@[simp] theorem State.setSeq_dcr (q : Seq) : (s.setSeq q).dcr = s.dcr := rfl
@[simp] theorem State.setSeq_init (q : Seq) : (s.setSeq q).init = s.init := rfl
@[simp] theorem State.setSeq_oe (q : Seq) : (s.setSeq q).oe = s.oe := rfl
@[simp] theorem State.setSeq_lvl (q : Seq) : (s.setSeq q).lvl = s.lvl := rfl
@[simp] theorem State.setSeq_seq (q : Seq) : (s.setSeq q).seq = q := rfl
@[simp] theorem State.setSeq_latchA (q : Seq) : (s.setSeq q).latchA = s.latchA := rfl
@[simp] theorem State.setSeq_latchB (q : Seq) : (s.setSeq q).latchB = s.latchB := rfl
@[simp] theorem State.setSeq_respValid (q : Seq) : (s.setSeq q).respValid = s.respValid := rfl
@[simp] theorem State.setSeq_respCount (q : Seq) : (s.setSeq q).respCount = s.respCount := rfl
@[simp] theorem State.setSeq_marks (q : Seq) : (s.setSeq q).marks = s.marks := rfl
@[simp] theorem State.setSeq_trace (q : Seq) : (s.setSeq q).trace = s.trace := rfl
@[simp] theorem State.setSeq_draws (q : Seq) : (s.setSeq q).draws = s.draws := rfl
@[simp] theorem State.setSeq_script (q : Seq) : (s.setSeq q).script = s.script := rfl
@[simp] theorem State.setSeq_rst (q : Seq) : (s.setSeq q).rst = s.rst := rfl

/-! ### `State.markFlags` -/

@[simp] theorem State.markFlags_cfg (bad : Bool) : (s.markFlags bad).cfg = s.cfg := rfl
@[simp] theorem State.markFlags_dcr (bad : Bool) : (s.markFlags bad).dcr = s.dcr := rfl
@[simp] theorem State.markFlags_init (bad : Bool) : (s.markFlags bad).init = s.init := rfl
@[simp] theorem State.markFlags_oe (bad : Bool) : (s.markFlags bad).oe = s.oe := rfl
@[simp] theorem State.markFlags_lvl (bad : Bool) : (s.markFlags bad).lvl = s.lvl := rfl
@[simp] theorem State.markFlags_seq (bad : Bool) : (s.markFlags bad).seq = s.seq := rfl
@[simp] theorem State.markFlags_latchA (bad : Bool) : (s.markFlags bad).latchA = s.latchA := rfl
@[simp] theorem State.markFlags_latchB (bad : Bool) : (s.markFlags bad).latchB = s.latchB := rfl
@[simp] theorem State.markFlags_respValid (bad : Bool) : (s.markFlags bad).respValid = s.respValid := rfl
@[simp] theorem State.markFlags_respCount (bad : Bool) : (s.markFlags bad).respCount = s.respCount := rfl
@[simp] theorem State.markFlags_marks (bad : Bool) : (s.markFlags bad).marks = { s.marks with malformedFlags := s.marks.malformedFlags || bad } := rfl
@[simp] theorem State.markFlags_trace (bad : Bool) : (s.markFlags bad).trace = s.trace := rfl
@[simp] theorem State.markFlags_draws (bad : Bool) : (s.markFlags bad).draws = s.draws := rfl
@[simp] theorem State.markFlags_script (bad : Bool) : (s.markFlags bad).script = s.script := rfl
@[simp] theorem State.markFlags_rst (bad : Bool) : (s.markFlags bad).rst = s.rst := rfl

/-! ### `State.drawRow4` -/

@[simp] theorem State.drawRow4_cfg : (s.drawRow4).cfg = s.cfg := rfl
@[simp] theorem State.drawRow4_dcr : (s.drawRow4).dcr = s.dcr := rfl
@[simp] theorem State.drawRow4_init : (s.drawRow4).init = s.init := rfl
@[simp] theorem State.drawRow4_oe : (s.drawRow4).oe = s.oe := rfl
@[simp] theorem State.drawRow4_lvl : (s.drawRow4).lvl = s.lvl := rfl
@[simp] theorem State.drawRow4_seq : (s.drawRow4).seq = s.seq := rfl
@[simp] theorem State.drawRow4_latchA : (s.drawRow4).latchA = s.latchA := rfl
@[simp] theorem State.drawRow4_latchB : (s.drawRow4).latchB = s.latchB := rfl
@[simp] theorem State.drawRow4_respValid : (s.drawRow4).respValid = s.respValid := rfl
@[simp] theorem State.drawRow4_respCount : (s.drawRow4).respCount = s.respCount := rfl
@[simp] theorem State.drawRow4_marks : (s.drawRow4).marks = { s.marks with rowIndexPastTable := true } := rfl
@[simp] theorem State.drawRow4_trace : (s.drawRow4).trace = s.trace := rfl
@[simp] theorem State.drawRow4_draws : (s.drawRow4).draws = s.draws + 1 := rfl
@[simp] theorem State.drawRow4_script : (s.drawRow4).script = s.script := rfl
@[simp] theorem State.drawRow4_rst : (s.drawRow4).rst = s.rst := rfl

/-! ### `State.emit` -/

@[simp] theorem State.emit_cfg (t : List Event) : (s.emit t).cfg = s.cfg := rfl
@[simp] theorem State.emit_dcr (t : List Event) : (s.emit t).dcr = s.dcr := rfl
@[simp] theorem State.emit_init (t : List Event) : (s.emit t).init = s.init := rfl
@[simp] theorem State.emit_oe (t : List Event) : (s.emit t).oe = t.foldl Event.onOe s.oe := rfl
@[simp] theorem State.emit_lvl (t : List Event) : (s.emit t).lvl = t.foldl Event.onLvl s.lvl := rfl
@[simp] theorem State.emit_seq (t : List Event) : (s.emit t).seq = s.seq := rfl
@[simp] theorem State.emit_latchA (t : List Event) : (s.emit t).latchA = s.latchA := rfl
@[simp] theorem State.emit_latchB (t : List Event) : (s.emit t).latchB = s.latchB := rfl
@[simp] theorem State.emit_respValid (t : List Event) : (s.emit t).respValid = s.respValid := rfl
@[simp] theorem State.emit_respCount (t : List Event) : (s.emit t).respCount = s.respCount := rfl
@[simp] theorem State.emit_marks (t : List Event) : (s.emit t).marks = s.marks := rfl
@[simp] theorem State.emit_trace (t : List Event) : (s.emit t).trace = s.trace ++ t := rfl
@[simp] theorem State.emit_draws (t : List Event) : (s.emit t).draws = s.draws := rfl
@[simp] theorem State.emit_script (t : List Event) : (s.emit t).script = s.script := rfl
@[simp] theorem State.emit_rst (t : List Event) : (s.emit t).rst = s.rst := rfl

/-! ### `State.finish` -/

@[simp] theorem State.finish_cfg (ret : Option Nat) : (s.finish ret).cfg = s.cfg := rfl
@[simp] theorem State.finish_dcr (ret : Option Nat) : (s.finish ret).dcr = s.dcr := rfl
@[simp] theorem State.finish_init (ret : Option Nat) : (s.finish ret).init = s.init := rfl
@[simp] theorem State.finish_oe (ret : Option Nat) : (s.finish ret).oe = s.oe := rfl
@[simp] theorem State.finish_lvl (ret : Option Nat) : (s.finish ret).lvl = s.lvl := rfl
@[simp] theorem State.finish_seq (ret : Option Nat) : (s.finish ret).seq = s.seq := rfl
@[simp] theorem State.finish_latchA (ret : Option Nat) : (s.finish ret).latchA = s.latchA := rfl
@[simp] theorem State.finish_latchB (ret : Option Nat) : (s.finish ret).latchB = s.latchB := rfl
@[simp] theorem State.finish_respValid (ret : Option Nat) : (s.finish ret).respValid = true := rfl
@[simp] theorem State.finish_respCount (ret : Option Nat) : (s.finish ret).respCount = ret := rfl
@[simp] theorem State.finish_marks (ret : Option Nat) : (s.finish ret).marks = s.marks := rfl
@[simp] theorem State.finish_trace (ret : Option Nat) : (s.finish ret).trace = s.trace := rfl
@[simp] theorem State.finish_draws (ret : Option Nat) : (s.finish ret).draws = s.draws := rfl
@[simp] theorem State.finish_script (ret : Option Nat) : (s.finish ret).script = s.script := rfl
@[simp] theorem State.finish_rst (ret : Option Nat) : (s.finish ret).rst = s.rst := rfl

/-! ### `State.wait` -/

@[simp] theorem State.wait_cfg : (s.wait).cfg = s.cfg := rfl
@[simp] theorem State.wait_dcr : (s.wait).dcr = s.dcr := rfl
@[simp] theorem State.wait_init : (s.wait).init = s.init := rfl
@[simp] theorem State.wait_oe : (s.wait).oe = s.oe := rfl
@[simp] theorem State.wait_lvl : (s.wait).lvl = s.lvl := rfl
@[simp] theorem State.wait_seq : (s.wait).seq = s.seq := rfl
@[simp] theorem State.wait_latchA : (s.wait).latchA = s.latchA := rfl
@[simp] theorem State.wait_latchB : (s.wait).latchB = s.latchB := rfl
@[simp] theorem State.wait_respValid : (s.wait).respValid = false := rfl
@[simp] theorem State.wait_respCount : (s.wait).respCount = none := rfl
@[simp] theorem State.wait_marks : (s.wait).marks = s.marks := rfl
@[simp] theorem State.wait_trace : (s.wait).trace = s.trace := rfl
@[simp] theorem State.wait_draws : (s.wait).draws = s.draws := rfl
@[simp] theorem State.wait_script : (s.wait).script = s.script := rfl
@[simp] theorem State.wait_rst : (s.wait).rst = s.rst := rfl

/-! ### `State.holdReset` -/

@[simp] theorem State.holdReset_cfg : (s.holdReset).cfg = s.cfg := rfl
@[simp] theorem State.holdReset_dcr : (s.holdReset).dcr = { d := true, c := false, b := false } := rfl
@[simp] theorem State.holdReset_init : (s.holdReset).init = .uninitialized := rfl
@[simp] theorem State.holdReset_oe : (s.holdReset).oe = { sel := false, clk := false, dat := false } := rfl
@[simp] theorem State.holdReset_lvl : (s.holdReset).lvl = { sel := none, clk := none, dat := none } := rfl
@[simp] theorem State.holdReset_seq : (s.holdReset).seq = .idle := rfl
@[simp] theorem State.holdReset_latchA : (s.holdReset).latchA = s.latchA := rfl
@[simp] theorem State.holdReset_latchB : (s.holdReset).latchB = s.latchB := rfl
@[simp] theorem State.holdReset_respValid : (s.holdReset).respValid = false := rfl
@[simp] theorem State.holdReset_respCount : (s.holdReset).respCount = none := rfl
@[simp] theorem State.holdReset_marks : (s.holdReset).marks = { rowIndexPastTable := false, malformedFlags := false } := rfl
@[simp] theorem State.holdReset_trace : (s.holdReset).trace = [] := rfl
@[simp] theorem State.holdReset_draws : (s.holdReset).draws = s.draws := rfl
@[simp] theorem State.holdReset_script : (s.holdReset).script = s.script := rfl
@[simp] theorem State.holdReset_rst : (s.holdReset).rst = s.rst := rfl

/-! ### `State.take` -/

@[simp] theorem State.take_cfg (r : Request) (rest : List Request) : (s.take r rest).cfg = s.cfg := by
  cases r <;> rfl
@[simp] theorem State.take_dcr (r : Request) (rest : List Request) : (s.take r rest).dcr = s.dcr := by
  cases r <;> rfl
@[simp] theorem State.take_init (r : Request) (rest : List Request) : (s.take r rest).init = s.init := by
  cases r <;> rfl
@[simp] theorem State.take_oe (r : Request) (rest : List Request) : (s.take r rest).oe = s.oe := by
  cases r <;> rfl
@[simp] theorem State.take_lvl (r : Request) (rest : List Request) : (s.take r rest).lvl = s.lvl := by
  cases r <;> rfl
@[simp] theorem State.take_seq (r : Request) (rest : List Request) : (s.take r rest).seq = s.seq := by
  cases r <;> rfl
@[simp] theorem State.take_respValid (r : Request) (rest : List Request) : (s.take r rest).respValid = false := by
  cases r <;> rfl
@[simp] theorem State.take_respCount (r : Request) (rest : List Request) : (s.take r rest).respCount = none := by
  cases r <;> rfl
@[simp] theorem State.take_marks (r : Request) (rest : List Request) : (s.take r rest).marks = s.marks := by
  cases r <;> rfl
@[simp] theorem State.take_trace (r : Request) (rest : List Request) : (s.take r rest).trace = s.trace := by
  cases r <;> rfl
@[simp] theorem State.take_draws (r : Request) (rest : List Request) : (s.take r rest).draws = s.draws := by
  cases r <;> rfl
@[simp] theorem State.take_script (r : Request) (rest : List Request) : (s.take r rest).script = rest := by
  cases r <;> rfl
@[simp] theorem State.take_rst (r : Request) (rest : List Request) : (s.take r rest).rst = s.rst := by
  cases r <;> rfl

@[simp] theorem State.take_host_latchA (w : BitVec 20) (rest : List Request) : (s.take (.host w) rest).latchA = reqA w := rfl
@[simp] theorem State.take_host_latchB (w : BitVec 20) (rest : List Request) : (s.take (.host w) rest).latchB = reqB w := rfl

end

end Sys2Proof.Machine
end

