-- ==== Sys2Proof/Laws/Link.lean ====
section
/-!
SUPPORT. What one transaction does to the pin registers and to a receiver; what emitting in pieces gives.
-/

namespace Sys2Proof.Machine

/-- Emitting two traces one after the other is emitting their concatenation (00_scope.md R9). -/
theorem State.emit_emit (s : State) (t u : List Event) : (s.emit t).emit u = s.emit (t ++ u) := by
  simp [State.emit, List.foldl_append]

@[simp] theorem State.emit_nil (s : State) : s.emit [] = s := by
  simp [State.emit]

/-- A transaction touches no `OE[p]` (10_state.md R26). -/
@[simp] theorem sendTrace_oe (cfg : Config) (v : Byte) (m : TxMode) (oe : PerPin Bool) :
    (sendTrace cfg v m).foldl Event.onOe oe = oe := by
  cases h : cfg.settlePerCycle <;> simp [sendTrace, preamble, shiftByte, msbFirst, clockBit, h, Event.onOe]

/-- At the end of a transaction `LVL` is select 1, clock 0, data `value[0]` (41_frame_encoder.md R101). -/
@[simp] theorem sendTrace_lvl (cfg : Config) (v : Byte) (m : TxMode) (lvl : PerPin (Option Level)) :
    (sendTrace cfg v m).foldl Event.onLvl lvl =
      { sel := some true, clk := some false, dat := some (v.getLsbD 0) } := by
  cases h : cfg.settlePerCycle <;>
    simp [sendTrace, preamble, shiftByte, msbFirst, clockBit, h, Event.onLvl, PerPin.put]

/-- A wait changes no register (10_state.md R27). -/
@[simp] theorem wait_oe (oe : PerPin Bool) (n : Nat) : Event.onOe oe (.wait n) = oe := rfl
@[simp] theorem wait_lvl (lvl : PerPin (Option Level)) (n : Nat) : Event.onLvl lvl (.wait n) = lvl := rfl

/-- The state after one transaction, in full (41_frame_encoder.md R101). -/
theorem State.send_eq (s : State) (v : Byte) (m : TxMode) :
    s.send v m =
      { s with
        lvl := { sel := some true, clk := some false, dat := some (v.getLsbD 0) }
        trace := s.trace ++ sendTrace s.cfg v m } := by
  simp [State.send, State.emit]

/-- The state after one command and its settle delay (42_display_register_state.md R110, 44_clear_home_setup.md R140). -/
theorem State.command_wait_eq (s : State) (v : Byte) (n : Nat) :
    (s.command v).emit [.wait n] =
      { s with
        lvl := { sel := some true, clk := some false, dat := some (v.getLsbD 0) }
        trace := s.trace ++ sendTrace s.cfg v .command ++ [.wait n] } := by
  simp [State.command, State.send_eq, State.emit]

@[simp] theorem Receiver.run_append (r : Receiver) (t u : List Event) : r.run (t ++ u) = (r.run t).run u :=
  List.foldl_append

@[simp] theorem Receiver.run_nil (r : Receiver) : r.run [] = r := rfl

@[simp] theorem Receiver.run_wait (r : Receiver) (n : Nat) : r.run [.wait n] = r := rfl

end Sys2Proof.Machine
end

