-- ==== Sys2Proof/Laws/Ops.lean ====
section
/-!
SUPPORT. What each shared operation can do, said once.
-/

namespace Sys2Proof.Machine

/-- The row-offset table is in canonical form. -/
theorem rot_wf : Memory.wf rot = true := by decide

/-- Acceptance answers a next state in two ways: the block was busy and the request waits, or the checks passed and the
operation ran (30_encoding.md R74, 60_exceptions.md R164). -/
theorem State.accepted_next {s t : State} {gate : Option Refusal} {run : Result} (h : s.accepted gate run = .next t) :
    (s.seq ≠ .idle ∧ t = s) ∨ (s.seq = .idle ∧ gate = none ∧ run = .next t) := by
  unfold State.accepted at h
  split at h
  · next hs => exact .inl ⟨by simp [hs], by injection h with h; exact h.symm⟩
  · next hs =>
    cases gate with
    | none => exact .inr ⟨hs, rfl, h⟩
    | some r => cases h

/-- When idle and past the checks, acceptance is the operation. -/
theorem State.accepted_run {s : State} {gate : Option Refusal} {run : Result} (hs : s.seq = .idle) (hg : gate = none) :
    s.accepted gate run = run := by
  simp [State.accepted, hs, hg]

/-- When idle, a violation refuses. -/
theorem State.accepted_refused {s : State} {r : Refusal} {run : Result} (hs : s.seq = .idle) :
    s.accepted (some r) run = .refused r := by
  simp [State.accepted, hs]

/-- When busy, a request waits. -/
theorem State.accepted_busy {s : State} {gate : Option Refusal} {run : Result} (hs : s.seq ≠ .idle) :
    s.accepted gate run = .next s := by
  unfold State.accepted
  split
  · rfl
  · next h => exact absurd h hs

theorem State.gateReady_none {s : State} : s.gateReady = none ↔ s.cfg.pinsDistinct = true ∧ s.init = .ready := by
  unfold State.gateReady
  cases s.cfg.pinsDistinct <;> by_cases h : s.init = .ready <;> simp [h]

theorem State.gateSetup_none {s : State} :
    s.gateSetup = none ↔ s.cfg.pinsDistinct = true ∧ (s.init = .uninitialized ∨ s.cfg.allowReinit = true) := by
  unfold State.gateSetup
  cases s.cfg.pinsDistinct <;> by_cases h : s.init = .uninitialized ∨ s.cfg.allowReinit = true <;> simp [h]

theorem State.gateLink_none {s : State} : s.gateLink = none ↔ s.cfg.pinsDistinct = true := by
  unfold State.gateLink
  cases s.cfg.pinsDistinct <;> simp

/-- The clamped row is the row, or 3 for a row above 4 (43_cursor_address_mapper.md R130). -/
theorem clampRow_le (row : Byte) : clampRow row ≤ 4 := by
  revert row; decide

/-- A read inside the table changes nothing (20_memory.md R41). -/
theorem State.rotRead_table (s : State) {i : Byte} {off : Byte} (h : Memory.read rot i.toNat = some off) :
    s.rotRead i = .ok (off, s) := by
  simp [State.rotRead, h]

/-- A read at index 4 is the draw (R41). -/
theorem State.rotRead_four (s : State) : s.rotRead 4 = .ok (Config.row4Offset s.draws, s.drawRow4) := by
  have h : Memory.read rot (4 : Byte).toNat = none := by decide
  unfold State.rotRead
  rw [h]
  rfl

/-- A clamped row is read without refusal, from the table or by the draw (R130: "no rule ever calls" past 4). -/
theorem State.rotRead_clampRow (s : State) (row : Byte) :
    (∃ off, Memory.read rot (clampRow row).toNat = some off ∧ s.rotRead (clampRow row) = .ok (off, s)) ∨
    (row = 4 ∧ s.rotRead (clampRow row) = .ok (Config.row4Offset s.draws, s.drawRow4)) := by
  have h : ∀ r : Byte, (Memory.read rot (clampRow r).toNat).isSome = true ∨ r = 4 := by decide
  rcases h row with h | h
  · obtain ⟨off, ho⟩ := Option.isSome_iff_exists.mp h
    exact .inl ⟨off, ho, s.rotRead_table ho⟩
  · subst h
    exact .inr ⟨rfl, by rw [show clampRow 4 = 4 by decide]; exact s.rotRead_four⟩

end Sys2Proof.Machine
end

