-- ==== Sys2Proof/Laws/Exec.lean ====
section
/-!
SUPPORT. What an instruction does, said once: every meaning is acceptance, then the operation's register update and its
trace (`opening`), then the writes of its end. The statements about all instructions rest on `exec_eq` and `opening_shape`.
-/

namespace Sys2Proof.Machine

/-- The state when the operation i, opened to `s` with trace t, has completed. -/
def State.concluded (s : State) (i : Instr) (t : List Event) : State :=
  let s1 := s.emit t
  let s2 := if i = .setup then (s1.setFlag .d true).setInit .ready else s1
  if i.isHostOp then s2.finish (returnValue i) else s2

/-- exec is acceptance, then the opening, then the conclusion. -/
theorem exec_eq (i : Instr) (s : State) :
    exec i s = s.accepted (s.gate i)
      (match opening i s with
       | .error r => .refused r
       | .ok (s1, t) => .next (s1.concluded i t)) := by
  cases i with
  | setup =>
    simp only [exec, execSetup, State.gate, opening, State.concluded, State.setupSteps, State.functionSet, State.toggle,
      State.clearDisplay, State.returnHome, State.entryMode, State.command_wait_eq]
    simp [State.emit, State.setInit, State.setFlag, State.finish, Instr.isHostOp, returnValue, setupTrace, setupOpening,
      settledCommand, pinSetup, Event.onLvl, Dcr.set]
  | setCursor col row =>
    obtain ⟨off, _, h⟩ | ⟨_, h⟩ := s.rotRead_clampRow row <;>
      simp [exec, execSetCursor, State.gate, opening, State.concluded, h, Instr.isHostOp, returnValue, State.command,
        State.send]
  | _ =>
    simp [exec, execClear, execHome, execDisplayOn, execDisplayOff, execCursorOn, execCursorOff, execBlinkOn, execBlinkOff,
      execSetEntryMode, execSetFunctionSet, execWrite, execCmdClearDisplay, execCmdReturnHome, execCmdEntryModeSet,
      execCmdDisplayControl, execCmdFunctionSet, execCmdSetDdramAddress, execFrameCommand, execFrameData,
      State.hostToggle, State.toggle, State.openToggle, State.entryMode, State.functionSet, State.clearDisplay,
      State.returnHome, State.linkCommand, State.linkSend, State.gate, opening, State.concluded, Instr.isHostOp, returnValue,
      State.command, State.send, State.emit_emit, settledCommand]

/-- An instruction that answers a next state either found the block busy and waits, or ran to its conclusion. -/
theorem exec_next {i : Instr} {s t : State} (h : exec i s = .next t) :
    (s.seq ≠ .idle ∧ t = s) ∨
    (s.seq = .idle ∧ s.gate i = none ∧ ∃ s1 events, opening i s = .ok (s1, events) ∧ t = s1.concluded i events) := by
  rw [exec_eq] at h
  obtain ⟨hs, rfl⟩ | ⟨hs, hg, hr⟩ := State.accepted_next h
  · exact .inl ⟨hs, rfl⟩
  · cases ho : opening i s with
    | error r => rw [ho] at hr; cases hr
    | ok x =>
      rw [ho] at hr
      injection hr with hr
      exact .inr ⟨hs, hg, x.1, x.2, rfl, hr.symm⟩

/-- The opening never stops: the row handed to the table is clamped (43_cursor_address_mapper.md R130). -/
theorem opening_ok (i : Instr) (s : State) : ∃ s1 events, opening i s = .ok (s1, events) := by
  cases i with
  | setCursor col row =>
    obtain ⟨off, _, h⟩ | ⟨_, h⟩ := s.rotRead_clampRow row <;> simp [opening, h]
  | _ => exact ⟨_, _, rfl⟩

/-- The register update of the opening: a toggle's flag, the marks and the draw; nothing else moves. -/
theorem opening_state {i : Instr} {s s1 : State} {events : List Event} (h : opening i s = .ok (s1, events)) :
    s1 = { s with dcr := s1.dcr, marks := s1.marks, draws := s1.draws } := by
  cases i with
  | setCursor col row =>
    obtain ⟨off, _, hr⟩ | ⟨_, hr⟩ := s.rotRead_clampRow row <;> simp only [opening, hr, Except.ok.injEq, Prod.mk.injEq] at h <;>
      obtain ⟨rfl, -⟩ := h <;> rfl
  | _ =>
    simp only [opening, State.openToggle, Except.ok.injEq, Prod.mk.injEq] at h
    obtain ⟨rfl, -⟩ := h
    rfl

/-- Every operation but SETUP is one frame and at most one wait; the frame is a DATA frame for WRITE and the data frame
only (41_frame_encoder.md R102). -/
theorem opening_shape {i : Instr} {s s1 : State} {events : List Event} (hi : i ≠ .setup)
    (h : opening i s = .ok (s1, events)) :
    ∃ v m tail, events = sendTrace s.cfg v m ++ tail ∧ (tail = [] ∨ ∃ n, tail = [.wait n]) ∧
      (m = .data ↔ (∃ ch, i = .write ch) ∨ ∃ v, i = .frameData v) := by
  cases i with
  | setup => exact absurd rfl hi
  | setCursor col row =>
    obtain ⟨off, _, hr⟩ | ⟨_, hr⟩ := s.rotRead_clampRow row <;> simp only [opening, hr, Except.ok.injEq, Prod.mk.injEq] at h <;>
      obtain ⟨-, rfl⟩ := h <;> exact ⟨_, .command, [], by simp; rfl, by simp, by simp⟩
  | write ch =>
    simp only [opening, Except.ok.injEq, Prod.mk.injEq] at h
    obtain ⟨-, rfl⟩ := h
    exact ⟨_, .data, [], by simp; rfl, by simp, by simp⟩
  | frameData v =>
    simp only [opening, Except.ok.injEq, Prod.mk.injEq] at h
    obtain ⟨-, rfl⟩ := h
    exact ⟨_, .data, [], by simp; rfl, by simp, by simp⟩
  | _ =>
    simp only [opening, State.openToggle, settledCommand, Except.ok.injEq, Prod.mk.injEq] at h
    obtain ⟨-, rfl⟩ := h
    first
      | exact ⟨_, .command, [], by simp; rfl, by simp, by simp⟩
      | exact ⟨_, .command, _, rfl, .inr ⟨_, rfl⟩, by simp⟩

end Sys2Proof.Machine
end

