-- ==== Sys2Proof/Laws/PerInstr.lean ====
section
/-!
SUPPORT. The family RoundTrip, one lemma per constructor: the decoder reads back what the encoder wrote.
-/

namespace Sys2Proof

theorem reqOp_hostWord (op : BitVec 4) (a b : Byte) : reqOp (op ++ a ++ b) = op := by
  show (op ++ a ++ b : BitVec (4 + 8 + 8)).extractLsb' 16 4 = op
  ext i hi
  simp only [BitVec.getElem_extractLsb', BitVec.getLsbD_append]
  simp [show ¬ 16 + i < 8 by omega, show ¬ 16 + i - 8 < 8 by omega, show 16 + i - 8 - 8 = i by omega,
    BitVec.getLsbD_eq_getElem hi]

theorem reqA_hostWord (op : BitVec 4) (a b : Byte) : reqA (op ++ a ++ b) = a := by
  show (op ++ a ++ b : BitVec (4 + 8 + 8)).extractLsb' 8 8 = a
  ext i hi
  simp only [BitVec.getElem_extractLsb', BitVec.getLsbD_append]
  simp [hi]

theorem reqB_hostWord (op : BitVec 4) (a b : Byte) : reqB (op ++ a ++ b) = b := by
  show (op ++ a ++ b : BitVec (4 + 8 + 8)).extractLsb' 0 8 = b
  ext i hi
  simp only [BitVec.getElem_extractLsb', BitVec.getLsbD_append]
  simp [hi]

/-- The decoder sees a host word as its three fields (30_encoding.md R71, R72). -/
theorem decode_hostWord (op : BitVec 4) (a b : Byte) : decode (hostWord op a b) = hostInstr op a b := by
  simp only [decode, hostWord, decodeHost, reqOp_hostWord, reqA_hostWord, reqB_hostWord]

namespace Laws.RoundTrip

/-- Decoding the encoding of i gives i. -/
def Statement (i : Instr) : Prop := decode (encode i) = .ok i

theorem setup : Statement .setup := decode_hostWord 0x0 0 0
theorem clear : Statement .clear := decode_hostWord 0x1 0 0
theorem home : Statement .home := decode_hostWord 0x2 0 0
theorem displayOn : Statement .displayOn := decode_hostWord 0x3 0 0
theorem displayOff : Statement .displayOff := decode_hostWord 0x4 0 0
theorem cursorOn : Statement .cursorOn := decode_hostWord 0x5 0 0
theorem cursorOff : Statement .cursorOff := decode_hostWord 0x6 0 0
theorem blinkOn : Statement .blinkOn := decode_hostWord 0x7 0 0
theorem blinkOff : Statement .blinkOff := decode_hostWord 0x8 0 0
theorem setCursor (col row : Byte) : Statement (.setCursor col row) := decode_hostWord 0x9 col row
theorem setEntryMode (flags : Byte) : Statement (.setEntryMode flags) := decode_hostWord 0xA flags 0
theorem setFunctionSet (flags : Byte) : Statement (.setFunctionSet flags) := decode_hostWord 0xB flags 0
theorem write (character : Byte) : Statement (.write character) := decode_hostWord 0xC character 0
theorem cmdClearDisplay : Statement .cmdClearDisplay := by unfold Statement; decide
theorem cmdReturnHome : Statement .cmdReturnHome := by unfold Statement; decide
theorem cmdEntryModeSet (increment shiftRight : Bool) : Statement (.cmdEntryModeSet increment shiftRight) := by
  unfold Statement; revert increment shiftRight; decide
theorem cmdDisplayControl (d c b : Bool) : Statement (.cmdDisplayControl d c b) := by
  unfold Statement; revert d c b; decide
theorem cmdFunctionSet (table : BitVec 2) : Statement (.cmdFunctionSet table) := by
  unfold Statement; revert table; decide
theorem cmdSetDdramAddress (address : BitVec 7) : Statement (.cmdSetDdramAddress address) := by
  unfold Statement; revert address; decide
theorem frameCommand (v : Byte) : Statement (.frameCommand v) := by
  unfold Statement; revert v; decide
theorem frameData (v : Byte) : Statement (.frameData v) := by
  unfold Statement; revert v; decide

end Laws.RoundTrip

end Sys2Proof
end

