-- ==== Sys2Proof/Tests/Slice0.lean ====
section
/-!
SUPPORT. The model's own tests. Expected results come from the spec's vectors (95_test_vectors.md) and tables, or are written
out from its encodings by hand; then the witnesses: for each obligation with hypotheses, a state and operands that meet them.
-/

namespace Sys2Proof.Machine.Tests

/-! ### Decoding: words written out from the tables of 30_encoding.md -/

theorem test_decode_host :
    [0x00000#20, 0x10000, 0x20000, 0x30000, 0x40000, 0x50000, 0x60000, 0x70000, 0x80000].map decodeHost =
      [.ok .setup, .ok .clear, .ok .home, .ok .displayOn, .ok .displayOff, .ok .cursorOn, .ok .cursorOff, .ok .blinkOn,
        .ok .blinkOff] := by rfl

/-- `REQ[15:8]` is `A` and `REQ[7:0]` is `B` (R71): SET_CURSOR 5, 2 is 0x90502, not 0x90205 (family H). -/
theorem test_decode_host_operands :
    [0x90502#20, 0x9FF03, 0xA0200, 0xB0100, 0xC4100].map decodeHost =
      [.ok (.setCursor 5 2), .ok (.setCursor 0xFF 3), .ok (.setEntryMode 2), .ok (.setFunctionSet 1), .ok (.write 0x41)] := by rfl

/-- V-10, V-11: reserved OPs; an ignored field. -/
theorem test_decode_host_reserved :
    [0xD0000#20, 0xE0000, 0xFFFFF, 0xC41FF].map decodeHost =
      [.error .reservedOp, .error .reservedOp, .error .reservedOp, .ok (.write 0x41)] := by rfl

theorem test_decode_command :
    [0b00000001#8, 0b00000010, 0b00000110, 0b00001100, 0b00111001, 0b11010011].map decodeCommand =
      [.ok .cmdClearDisplay, .ok .cmdReturnHome, .ok (.cmdEntryModeSet true false), .ok (.cmdDisplayControl true false false),
        .ok (.cmdFunctionSet 1), .ok (.cmdSetDdramAddress 0x53)] := by rfl

/-- R68: bytes in no legal range. -/
theorem test_decode_command_unassigned :
    [0x00#8, 0x03, 0x10, 0x37, 0x3C, 0x7F].map decodeCommand = List.replicate 6 (.error .unassignedCommandByte) := by rfl

/-- S7 and F6: `1,0,0,1,0,0,0,0,0,1` and `0,0,1,0,0,1,1,0,0,1`; a high second bit is reserved (R68). -/
theorem test_decode_frame :
    [0b1001000001#10, 0b0010011001, 0b0101000001, 0b1100000000].map decodeFrame =
      [.ok (.frameData 0x41), .ok (.frameCommand 0x99), .error .reservedPreamble, .error .reservedPreamble] := by rfl

/-- The numbering of the opcode table: 24, 8 and 16 bits in whole bytes. -/
theorem test_decode_table_word :
    [(24, 0x90502), (8, 0x0D), (16, 0x241), (24, 0xD0000), (8, 0x100), (16, 0x400)].map (fun x => decodeTableWord x.1 x.2) =
      [some (.setCursor 5 2), some (.cmdDisplayControl true false true), some (.frameData 0x41), none, none, none] := by rfl

/-! ### WellFormed refuses -/

theorem test_illformed_row_four : Instr.wellFormed (.setCursor 0 4) = false := by decide
theorem test_illformed_entry_flags : Instr.wellFormed (.setEntryMode 4) = false := by decide
theorem test_illformed_function_flags : Instr.wellFormed (.setFunctionSet 4) = false := by decide
theorem test_illformed_host_word : Request.wellFormed (.host 0xD0000) = false := by decide
theorem test_illformed_command_byte : Request.wellFormed (.command 0x37) = false := by decide
theorem test_illformed_frame : Request.wellFormed (.frame 0b0100000000) = false := by decide

/-! ### Meanings -/

/-- The state SETUP leaves (end of P1), with the trace forgotten and `DCR` chosen. -/
def readyWith (dcr : Dcr) : State :=
  { State.reset with
    dcr := dcr
    init := .ready
    oe := { sel := true, clk := true, dat := true }
    lvl := { sel := some true, clk := some false, dat := some false } }

/-- `DCR` = {1,0,0}, as SETUP leaves it. -/
def ready : State := readyWith { d := true, c := false, b := false }

/-- What the tables of 95_test_vectors.md list: `DCR`, the bytes sent, the waits outside frames' sum and the data level. -/
def seen (r : Result) : Option (Dcr × List (TxMode × Byte) × Nat × Option Level) :=
  match r with
  | .next t => some (t.dcr, bytesOf (framesOf t.trace), minTime t.trace, t.lvl.dat)
  | .fault _ => none
  | .refused _ => none

/-- D table, row 0,1,0. -/
theorem test_displayOn : seen (exec .displayOn (readyWith { d := false, c := true, b := false })) =
    some ({ d := true, c := true, b := false }, [(.command, 0x0E)], 1520, some false) := by decide
/-- D table, row 1,0,1. -/
theorem test_displayOff : seen (exec .displayOff (readyWith { d := true, c := false, b := true })) =
    some ({ d := false, c := false, b := true }, [(.command, 0x09)], 1520, some true) := by decide
/-- D table, row 0,0,1. -/
theorem test_cursorOn : seen (exec .cursorOn (readyWith { d := false, c := false, b := true })) =
    some ({ d := false, c := true, b := true }, [(.command, 0x0B)], 1520, some true) := by decide
/-- D table, row 1,1,1. -/
theorem test_cursorOff : seen (exec .cursorOff (readyWith { d := true, c := true, b := true })) =
    some ({ d := true, c := false, b := true }, [(.command, 0x0D)], 1520, some true) := by decide
/-- D table, row 1,1,0. -/
theorem test_blinkOn : seen (exec .blinkOn (readyWith { d := true, c := true, b := false })) =
    some ({ d := true, c := true, b := true }, [(.command, 0x0F)], 1520, some true) := by decide
/-- D table, row 0,1,1. -/
theorem test_blinkOff : seen (exec .blinkOff (readyWith { d := false, c := true, b := true })) =
    some ({ d := false, c := true, b := false }, [(.command, 0x0A)], 1520, some false) := by decide
/-- E6: the byte falls in the display-control range and `DCR` is not changed. -/
theorem test_setEntryMode : seen (exec (.setEntryMode 0x08) ready) =
    some ({ d := true, c := false, b := false }, [(.command, 0x0C)], 1520, some false) := by decide
/-- E14. -/
theorem test_setFunctionSet : seen (exec (.setFunctionSet 0x80) ready) =
    some ({ d := true, c := false, b := false }, [(.command, 0xB8)], 1520, some false) := by decide
/-- C14: 0xFF + 0x54 reduced mod 256. -/
theorem test_setCursor_wrap : seen (exec (.setCursor 0xFF 3) ready) =
    some ({ d := true, c := false, b := false }, [(.command, 0xD3)], 1020, some true) := by decide
/-- C8: the largest row is clamped. -/
theorem test_setCursor_clamp : seen (exec (.setCursor 7 255) ready) =
    some ({ d := true, c := false, b := false }, [(.command, 0xDB)], 1020, some true) := by decide
/-- I3: clear does not touch the flags. -/
theorem test_clear : seen (exec .clear (readyWith { d := false, c := true, b := true })) =
    some ({ d := false, c := true, b := true }, [(.command, 0x01)], 3020, some true) := by decide
/-- I2. -/
theorem test_home : seen (exec .home ready) =
    some ({ d := true, c := false, b := false }, [(.command, 0x02)], 3020, some false) := by decide
/-- W4: data, not a clear. -/
theorem test_write : seen (exec (.write 0x01) ready) =
    some ({ d := true, c := false, b := false }, [(.data, 0x01)], 1020, some true) := by decide
set_option maxRecDepth 20000 in
/-- P1: from reset, the host presents the word 0x00000. -/
theorem test_setup : seen (step { State.reset with script := [.host 0x00000] }) =
    some ({ d := true, c := false, b := false },
      [(.command, 0x38), (.command, 0x0C), (.command, 0x01), (.command, 0x02), (.command, 0x06)], 510600, some false) := by decide
/-- F7, R22: a bare command byte changes no flag. -/
theorem test_cmdDisplayControl : seen (exec (.cmdDisplayControl false true true) ready) =
    some ({ d := true, c := false, b := false }, [(.command, 0x0B)], 1020, some true) := by decide
/-- F5. -/
theorem test_frameData : seen (exec (.frameData 0xFF) ready) =
    some ({ d := true, c := false, b := false }, [(.data, 0xFF)], 1020, some true) := by decide

/-- Whether a result is a given refusal. -/
def refusedWith (r : Result) (why : Refusal) : Bool :=
  match r with
  | .next _ => false
  | .fault _ => false
  | .refused x => x = why

/-- V-1, V-3: V1 is reported, before V3. -/
theorem test_before_ready : refusedWith (exec (.setCursor 0 4) State.reset) .opBeforeReady = true := by decide
/-- V-5. -/
theorem test_setup_repeated : refusedWith (exec .setup ready) .setupRepeated = true := by decide
/-- V-10. -/
theorem test_reserved_op : refusedWith (step { ready with script := [.host 0xD0000] }) .reservedOp = true := by decide

/-- Marks and draws of a result. -/
def marksOf (r : Result) : Option (Marks × Nat) :=
  match r with
  | .next t => some (t.marks, t.draws)
  | .fault _ => none
  | .refused _ => none

/-- V-6: row 4 runs with a draw and the mark V3. -/
theorem test_row_four : marksOf (exec (.setCursor 0 4) ready) =
    some ({ rowIndexPastTable := true, malformedFlags := false }, 1) := by rfl
/-- V-8, V-9: flags 0x04 record V4 and flags 0x03 do not. -/
theorem test_flags_four : marksOf (exec (.setEntryMode 4) ready) =
    some ({ rowIndexPastTable := false, malformedFlags := true }, 0) := by rfl
theorem test_flags_three : marksOf (exec (.setEntryMode 3) ready) =
    some ({ rowIndexPastTable := false, malformedFlags := false }, 0) := by rfl

/-- S7: the first and last events of WRITE 0x41 and their number. -/
theorem test_write_trace_ends :
    (sendTrace Config.default 0x41 .data).length = 72 ∧
    (sendTrace Config.default 0x41 .data).take 8 =
      [.drive .sel false, .drive .dat true, .drive .clk false, .wait 1, .drive .clk true, .wait 1, .drive .clk false, .wait 100] ∧
    (sendTrace Config.default 0x41 .data).drop 64 =
      [.drive .dat true, .drive .clk false, .wait 1, .drive .clk true, .wait 1, .drive .clk false, .wait 100,
        .drive .sel true] := by decide

set_option maxRecDepth 20000 in
/-- A step on a presented opcode-table word runs it as the first instruction after reset. -/
theorem test_fetch_setup : seen (step (State.reset.withFetchWord 24 0x00000)) = seen (exec .setup State.reset) := by decide
theorem test_fetch_command : seen (step (State.reset.withFetchWord 8 0x01)) =
    some ({ d := true, c := false, b := false }, [(.command, 0x01)], 1020, some true) := by decide

/-! ### Witnesses: for each obligation with hypotheses, inputs that meet them -/

/-- WRITE accepted in the micro-step view: `Busy(op, k)` with the whole of its trace. -/
def busyAt (i : Instr) (k : Nat) : State := ready.setSeq (.busy i k [.drive .sel false, .wait 1])

theorem witness_PackIsTheDisplayControlByte : 0x08#8 ≤ 0x0F#8 ∧ 0x0F#8 ≤ 0x0F#8 ∧ 0x08#8 ≤ 0x08#8 := by decide

theorem witness_EventsMovePinRegisters_driven : ready.oe.get .clk = true ∧ ready.lvl.get .clk = some false := ⟨rfl, rfl⟩
theorem witness_EventsMovePinRegisters_unspecified :
    (State.reset.emit [.mode .clk]).oe.get .clk = true ∧ (State.reset.emit [.mode .clk]).lvl.get .clk = none := ⟨rfl, rfl⟩
theorem witness_EventsMovePinRegisters_notDriven : State.reset.oe.get .clk = false := rfl

theorem witness_RotReadIsTheTable : 5#8 ≤ 5#8 ∧ 5#8 ≤ 255#8 := by decide

theorem witness_LinkWordsHaveOneMeaning :
    (Request.command 0x0F).isHost = false ∧ decode (.command 0x0F) = .ok (.cmdDisplayControl true true true) := ⟨rfl, rfl⟩

theorem witness_ReservedOpIsRefused_lowest :
    ({ ready with script := [.host (0xD#4 ++ 0#8 ++ 0#8)] } : State).rst = false ∧ ready.seq = .idle ∧ 0xD#4 ≤ 0xD#4 := by decide
theorem witness_ReservedOpIsRefused_highest : ready.rst = false ∧ ready.seq = .idle ∧ 0xD#4 ≤ 0xF#4 := by decide

theorem witness_LinkWordsOutsideTheTables_command :
    ready.rst = false ∧ ready.seq = .idle ∧ ¬ ∃ i, decode (.command 0x3C) = .ok i :=
  ⟨rfl, rfl, by rintro ⟨i, h⟩; cases h⟩
theorem witness_LinkWordsOutsideTheTables_frame :
    ready.rst = false ∧ ready.seq = .idle ∧ (0b0100000000#10).getLsbD 8 = true := ⟨rfl, rfl, rfl⟩

theorem witness_StepRunsDecodedInstruction_host :
    let s : State := { ready with script := [.host 0xC41FF] }
    s.rst = false ∧ s.seq = .idle ∧ s.script = .host 0xC41FF :: [] ∧ decode (.host 0xC41FF) = .ok (.write 0x41) :=
  ⟨rfl, rfl, rfl, rfl⟩
theorem witness_StepRunsDecodedInstruction_link :
    let s : State := { ready with script := [.frame 0x241] }
    s.rst = false ∧ s.seq = .idle ∧ s.script = .frame 0x241 :: [] ∧ (Request.frame 0x241).isHost = false ∧
      decode (.frame 0x241) = .ok (.frameData 0x41) := ⟨rfl, rfl, rfl, rfl, rfl⟩

theorem witness_IdleStepWaitsForTheHost : ready.rst = false ∧ ready.seq = .idle ∧ ready.script = [] := ⟨rfl, rfl, rfl⟩

theorem witness_OperandLatchesSampleOnce_accept :
    ∃ t, step { ready with script := [.host 0x90502] } = .next t := ⟨_, rfl⟩
theorem witness_OperandLatchesSampleOnce_accept_micro :
    ∃ t, stepMicro { ready with script := [.host 0x90502] } = .next t := ⟨_, rfl⟩
theorem witness_OperandLatchesSampleOnce_busy :
    (busyAt (.write 0x41) 0).seq ≠ .idle ∧ ∃ t, step (busyAt (.write 0x41) 0) = .next t := ⟨by decide, _, rfl⟩

theorem witness_ResetInputHoldsOrRefuses_idle :
    ({ ready with rst := true } : State).rst = true ∧ ({ ready with rst := true } : State).seq = .idle := ⟨rfl, rfl⟩
theorem witness_ResetInputHoldsOrRefuses_busy :
    ({ busyAt .clear 0 with rst := true } : State).rst = true ∧
      ({ busyAt .clear 0 with rst := true } : State).seq = .busy .clear 0 [.drive .sel false, .wait 1] := ⟨rfl, rfl⟩

theorem witness_BusyStepPerformsTheNextEvent_event :
    (busyAt .clear 1).rst = false ∧ (busyAt .clear 1).seq = .busy .clear 1 [.drive .sel false, .wait 1] ∧
      [Event.drive .sel false, .wait 1][1]? = some (.wait 1) := ⟨rfl, rfl, rfl⟩
theorem witness_BusyStepPerformsTheNextEvent_setup_last :
    (busyAt .setup 1).rst = false ∧ (busyAt .setup 1).seq = .busy .setup 1 [.drive .sel false, .wait 1] ∧
      1 + 1 = [Event.drive .sel false, .wait 1].length := ⟨rfl, rfl, rfl⟩
theorem witness_BusyStepPerformsTheNextEvent_deliver :
    (busyAt (.write 0x41) 2).rst = false ∧ 2 = [Event.drive .sel false, .wait 1].length ∧
      Instr.isHostOp (.write 0x41) = true := ⟨rfl, rfl, rfl⟩

/-- For the result statements of the twelve operations that need Ready. -/
theorem witness_acceptsOps : ready.acceptsOps := ⟨rfl, rfl, rfl⟩
/-- SET_CURSOR's clauses at the ends of their ranges: rows 0, 3, 5, 255 and row 4. -/
theorem witness_SetCursorResult :
    ready.acceptsOps ∧ (0#8 ≠ 4#8 ∧ 3#8 ≠ 4#8 ∧ 5#8 ≠ 4#8 ∧ 255#8 ≠ 4#8) ∧ 4#8 = 4#8 := ⟨⟨rfl, rfl, rfl⟩, by decide⟩
/-- For every RefusedBeforeReady clause. -/
theorem witness_RefusedBeforeReady :
    State.reset.seq = .idle ∧ State.reset.cfg.pinsDistinct = true ∧ State.reset.init ≠ .ready := by decide
theorem witness_SetupResult_first : State.reset.acceptsSetup := ⟨rfl, rfl, .inl rfl⟩
theorem witness_SetupResult_again :
    ({ ready with cfg := { Config.default with allowReinit := true } } : State).acceptsSetup := ⟨rfl, rfl, .inr rfl⟩
theorem witness_SetupResult_repeated :
    ready.seq = .idle ∧ ready.cfg.pinsDistinct = true ∧ ready.init ≠ .uninitialized ∧ ready.cfg.allowReinit = false := by decide
theorem witness_SetupResult_pins :
    ({ ready with cfg := { Config.default with pinClk := 0 } } : State).seq = .idle ∧
      ({ ready with cfg := { Config.default with pinClk := 0 } } : State).cfg.pinsDistinct = false := ⟨rfl, rfl⟩

/-- For the results of command bytes and frames, which hold in any INIT. -/
theorem witness_CommandBytesResult_FramesResult :
    State.reset.seq = .idle ∧ State.reset.cfg.pinsDistinct = true := ⟨rfl, rfl⟩

theorem witness_SharedPinsAreRefusedFirst :
    ({ ready with cfg := { Config.default with pinDat := 1 } } : State).seq = .idle ∧
      ({ ready with cfg := { Config.default with pinDat := 1 } } : State).cfg.pinClk =
        ({ ready with cfg := { Config.default with pinDat := 1 } } : State).cfg.pinDat := ⟨rfl, rfl⟩

theorem witness_RequestsWaitWhileBusy : (busyAt .clear 0).seq ≠ .idle := by decide

/-- For MarksAreSetByTheirConditionsAndKept, both conditions and neither. -/
theorem witness_MarksAreSet :
    ready.seq = .idle ∧ (∃ t, exec (.setCursor 0 4) ready = .next t) ∧ (∃ t, exec (.setFunctionSet 4) ready = .next t) ∧
      ∃ t, exec (.setEntryMode 3) ready = .next t := ⟨rfl, ⟨_, rfl⟩, ⟨_, rfl⟩, ⟨_, rfl⟩⟩

theorem witness_ReceiverRecoversTheFrame : Receiver.start.frame = none := rfl

/-- For FramesPerInstructionAndTheirMode and OperationsTakeTheirStatedTime: SETUP, an operation and a data frame. -/
theorem witness_FramesPerInstruction_OperationsTime :
    State.reset.seq = .idle ∧ ready.seq = .idle ∧ Receiver.start.frame = none ∧ (∃ t, exec .setup State.reset = .next t) ∧
      (∃ t, exec .clear ready = .next t) ∧ ∃ t, exec (.frameData 0) ready = .next t :=
  ⟨rfl, rfl, rfl, ⟨_, rfl⟩, ⟨_, rfl⟩, ⟨_, rfl⟩⟩

theorem witness_TimingDoesNotDependOnData :
    (Instr.write 0x00).ctorIdx = (Instr.write 0xFF).ctorIdx ∧ ready.seq = .idle ∧
      (∃ t, exec (.write 0x00) ready = .next t ∧ t.trace = ready.trace ++ sendTrace ready.cfg 0x00 .data) ∧
      ∃ t, exec (.write 0xFF) ready = .next t ∧ t.trace = ready.trace ++ sendTrace ready.cfg 0xFF .data :=
  ⟨rfl, rfl, ⟨_, rfl, rfl⟩, ⟨_, rfl, rfl⟩⟩

theorem witness_ClockCycleWaveform :
    ({ sel := some true, clk := some false, dat := none } : PerPin (Option Level)).clk = some false ∧
      ({ sel := some true, clk := some true, dat := some true } : PerPin (Option Level)).clk = some true := ⟨rfl, rfl⟩

/-- For OnlySetupChangesInitAndOutputEnables and DcrIsTheTogglesAlone. -/
theorem witness_OnlySetup_DcrIsTheTogglesAlone :
    Instr.home ≠ .setup ∧ toggleOf .home = none ∧ ∃ t, exec .home ready = .next t := ⟨by decide, rfl, _, rfl⟩

/-- For NoStepChangesTheConfiguration and StepsOnlyExtendTheTrace. -/
theorem witness_NoStepChanges_StepsOnlyExtend :
    ready.rst = false ∧ (∃ t, step { ready with script := [.host 0x10000] } = .next t) ∧
      ∃ t, stepMicro { ready with script := [.host 0x10000] } = .next t := ⟨rfl, ⟨_, rfl⟩, ⟨_, rfl⟩⟩

theorem witness_RegisterSequencesFollowTheLastToggle :
    ready.acceptsOps ∧ ∀ i ∈ [Instr.displayOn, .setEntryMode 8, .blinkOn, .displayOff],
      (registerByte ready.dcr i).isSome = true := ⟨⟨rfl, rfl, rfl⟩, by decide⟩

theorem witness_MicroAcceptanceWritesTheRegisterFirst :
    ready.rst = false ∧ ready.seq = .idle ∧ decode (.host 0x50000) = .ok .cursorOn ∧
      ∃ t, acceptMicro .cursorOn ready = .next t := ⟨rfl, rfl, rfl, _, rfl⟩

theorem witness_MicroStepsComposeToTheOperation :
    ready.seq = .idle ∧ ready.rst = false ∧ (∃ t, exec .clear ready = .next t) ∧
      exec .setup ready = .refused .setupRepeated := ⟨rfl, rfl, ⟨_, rfl⟩, rfl⟩

/-- For EveryStepKeepsTheInvariant: reset with SETUP on the port meets the invariant and steps; so does what SETUP leaves. -/
theorem witness_EveryStepKeepsTheInvariant :
    ({ State.reset with script := [.host 0x00000] } : State).Inv ∧
      ∃ t, step { State.reset with script := [.host 0x00000] } = .next t :=
  ⟨⟨by intro r h; simp at h; subst h; rfl, rfl, rfl, rfl, rfl⟩, _, rfl⟩

/-- A state in Ready that meets the invariant: the data path and the last display-control byte as R36 says. -/
def readySettled : State :=
  { ready with trace := sendTrace Config.default 0x0C .command, script := [.host 0xC4100] }
theorem witness_EveryStepKeepsTheInvariant_ready :
    readySettled.Inv ∧ ∃ t, step readySettled = .next t := by
  refine ⟨⟨by intro r h; simp [readySettled] at h; subst h; rfl, ?_⟩, _, rfl⟩
  exact ⟨by decide, rfl, rfl, rfl, ⟨.command, 0x0C, by decide, rfl⟩, by decide⟩

theorem witness_LegalSessionsReachAGoodEnd :
    Config.default.pinsDistinct = true ∧ ∀ i ∈ [Instr.setCursor 5 2, .write 0x48, .write 0x69],
      i.isHostOp = true ∧ i ≠ .setup ∧ i.wellFormed = true := by decide

end Sys2Proof.Machine.Tests
end

/-! ## The family of 10_state.md: what a step, an acceptance and a micro-step can do, said once -/

namespace Sys2Proof.Machine

/-! ### What no operation writes -/

/-- What the operations leave alone: the configuration, the operand latches and the host's inputs (10_state.md R30, R34). -/
structure State.SameInputs (s t : State) : Prop where
  cfg : t.cfg = s.cfg
  latchA : t.latchA = s.latchA
  latchB : t.latchB = s.latchB
  script : t.script = s.script
  rst : t.rst = s.rst

theorem State.SameInputs.refl (s : State) : s.SameInputs s := ⟨rfl, rfl, rfl, rfl, rfl⟩

theorem State.concluded_eq (s : State) (i : Instr) (t : List Event) :
    s.concluded i t =
      { s.emit t with
        dcr := if i = .setup then s.dcr.set .d true else s.dcr
        init := if i = .setup then .ready else s.init
        respValid := if i.isHostOp then true else s.respValid
        respCount := if i.isHostOp then returnValue i else s.respCount } := by
  unfold State.concluded
  by_cases hi : i = .setup
  · subst hi; rfl
  · cases hh : i.isHostOp <;> simp [hi] <;> rfl

theorem opening_sameInputs {i : Instr} {s s1 : State} {events : List Event} (h : opening i s = .ok (s1, events)) :
    s.SameInputs s1 := by
  rw [opening_state h]
  exact ⟨rfl, rfl, rfl, rfl, rfl⟩

theorem exec_sameInputs {i : Instr} {s t : State} (h : exec i s = .next t) : s.SameInputs t := by
  obtain ⟨-, rfl⟩ | ⟨-, -, s1, events, ho, rfl⟩ := exec_next h
  · exact .refl _
  · obtain ⟨hcfg, hA, hB, hscript, hrst⟩ := opening_sameInputs ho
    rw [State.concluded_eq]
    exact ⟨hcfg, hA, hB, hscript, hrst⟩

/-- An atomic operation leaves `SEQ` where it was. -/
theorem exec_seq {i : Instr} {s t : State} (h : exec i s = .next t) : t.seq = s.seq := by
  obtain ⟨-, rfl⟩ | ⟨-, -, s1, events, ho, rfl⟩ := exec_next h
  · rfl
  · rw [State.concluded_eq, opening_state ho]
    rfl

/-! ### Acceptance in the micro-step view -/

/-- Acceptance answers a next state in two ways: the request waits, or the opening is made and the operation sits in `SEQ`
at its first event (10_state.md R29). -/
theorem acceptMicro_next {i : Instr} {s t : State} (h : acceptMicro i s = .next t) :
    (s.seq ≠ .idle ∧ t = s) ∨
    (s.seq = .idle ∧ s.gate i = none ∧
      ∃ s1 events, opening i s = .ok (s1, events) ∧ t = s1.setSeq (.busy i 0 events)) := by
  obtain ⟨hs, rfl⟩ | ⟨hs, hg, hr⟩ := State.accepted_next h
  · exact .inl ⟨hs, rfl⟩
  · obtain ⟨s1, events, ho⟩ := opening_ok i s
    rw [ho] at hr
    injection hr with hr
    exact .inr ⟨hs, hg, s1, events, ho, hr.symm⟩

theorem acceptMicro_sameInputs {i : Instr} {s t : State} (h : acceptMicro i s = .next t) : s.SameInputs t := by
  obtain ⟨-, rfl⟩ | ⟨-, -, s1, events, ho, rfl⟩ := acceptMicro_next h
  · exact .refl _
  · obtain ⟨hcfg, hA, hB, hscript, hrst⟩ := opening_sameInputs ho
    exact ⟨hcfg, hA, hB, hscript, hrst⟩

/-- An idle block refuses what the checks refuse: the operation itself never does. -/
theorem exec_refused_iff {i : Instr} {s : State} (hs : s.seq = .idle) (r : Refusal) :
    exec i s = .refused r ↔ s.gate i = some r := by
  obtain ⟨s1, events, ho⟩ := opening_ok i s
  rw [exec_eq, ho]
  cases hg : s.gate i <;> simp [State.accepted, hs]

/-- The micro-step view refuses the same. -/
theorem acceptMicro_refused_iff {i : Instr} {s : State} (hs : s.seq = .idle) (r : Refusal) :
    acceptMicro i s = .refused r ↔ s.gate i = some r := by
  obtain ⟨s1, events, ho⟩ := opening_ok i s
  unfold acceptMicro
  rw [ho]
  cases hg : s.gate i <;> simp [State.accepted, hs]

/-- An idle block past the checks runs the operation to its conclusion. -/
theorem exec_run {i : Instr} {s s1 : State} {events : List Event} (hs : s.seq = .idle) (hg : s.gate i = none)
    (ho : opening i s = .ok (s1, events)) : exec i s = .next (s1.concluded i events) := by
  rw [exec_eq, ho, State.accepted_run hs hg]

/-- An idle block past the checks accepts the operation into `SEQ`. -/
theorem acceptMicro_run {i : Instr} {s s1 : State} {events : List Event} (hs : s.seq = .idle) (hg : s.gate i = none)
    (ho : opening i s = .ok (s1, events)) : acceptMicro i s = .next (s1.setSeq (.busy i 0 events)) := by
  unfold acceptMicro
  rw [ho, State.accepted_run hs hg]

/-- The opening's write of `DCR` is a toggle's (10_state.md R29, 42_display_register_state.md R112). -/
theorem opening_dcr {i : Instr} {s s1 : State} {events : List Event} (h : opening i s = .ok (s1, events)) :
    s1.dcr = dcrAfter s.dcr i := by
  cases i with
  | setCursor col row =>
    obtain ⟨off, _, hr⟩ | ⟨_, hr⟩ := s.rotRead_clampRow row <;>
      simp only [opening, hr, Except.ok.injEq, Prod.mk.injEq] at h <;> obtain ⟨rfl, -⟩ := h <;> rfl
  | _ =>
    simp only [opening, State.openToggle, Except.ok.injEq, Prod.mk.injEq] at h
    obtain ⟨rfl, -⟩ := h
    rfl

/-! ### One micro-step -/

theorem State.setupWrites_eq (s : State) (k n : Nat) :
    s.setupWrites k n =
      { s with
        dcr := if k = (setupOpening s.cfg).length then s.dcr.set .d true else s.dcr
        init := if k + 1 = n then .ready else if k = 5 then .initializing else s.init } := by
  unfold State.setupWrites
  split_ifs <;> rfl

theorem State.deliver_eq (s : State) (i : Instr) :
    s.deliver i =
      { s with
        seq := .idle
        respValid := if i.isHostOp then true else s.respValid
        respCount := if i.isHostOp then returnValue i else s.respCount } := by
  unfold State.deliver
  cases i.isHostOp <;> rfl

/-- With an event at k a micro-step performs it, after SETUP's register writes. -/
theorem State.microStep_event {s : State} {i : Instr} {k : Nat} {t : List Event} {e : Event}
    (hs : s.seq = .busy i k t) (he : t[k]? = some e) :
    s.microStep = ((if i = .setup then s.setupWrites k t.length else s).emit [e]).setSeq (.busy i (k + 1) t) := by
  simp only [State.microStep, hs, he]

/-- Past the last event a micro-step delivers. -/
theorem State.microStep_deliver {s : State} {i : Instr} {k : Nat} {t : List Event}
    (hs : s.seq = .busy i k t) (hk : t.length ≤ k) : s.microStep = s.deliver i := by
  simp only [State.microStep, hs, List.getElem?_eq_none hk]

theorem State.microStep_sameInputs (s : State) : s.SameInputs s.microStep := by
  unfold State.microStep
  split
  · exact .refl s
  · split
    · split
      · rw [State.setupWrites_eq]; exact ⟨rfl, rfl, rfl, rfl, rfl⟩
      · exact ⟨rfl, rfl, rfl, rfl, rfl⟩
    · rw [State.deliver_eq]; exact ⟨rfl, rfl, rfl, rfl, rfl⟩

/-! ### One step, of either view -/

section

variable {run : Instr → State → Result} {s t : State}

/-- A step answers a next state in four ways: RST is held, the operation in progress goes on, the block waits, or the request
on the port is run. -/
theorem stepWith_next (h : stepWith run s = .next t) :
    (s.rst = true ∧ s.seq = .idle ∧ t = s.holdReset) ∨
    (s.rst = false ∧ s.seq ≠ .idle ∧ t = s.microStep) ∨
    (s.rst = false ∧ s.seq = .idle ∧ s.script = [] ∧ t = s.wait) ∨
    (s.rst = false ∧ s.seq = .idle ∧ ∃ r rest i, s.script = r :: rest ∧ decode r = .ok i ∧
      run i (s.take r rest) = .next t) := by
  unfold stepWith at h
  split at h
  · next hr hs => exact .inl ⟨hr, hs, by injection h with h; exact h.symm⟩
  · cases h
  · next hr hs => exact .inr (.inl ⟨hr, by simp [hs], by injection h with h; exact h.symm⟩)
  · next hr hs =>
    split at h
    · next hl => exact .inr (.inr (.inl ⟨hr, hs, hl, by injection h with h; exact h.symm⟩))
    · next r rest hl =>
      split at h
      · cases h
      · next i hd => exact .inr (.inr (.inr ⟨hr, hs, r, rest, i, hl, hd, h⟩))

/-- Out of reset a busy block makes a micro-step. -/
theorem stepWith_busy (hr : s.rst = false) (hs : s.seq ≠ .idle) : stepWith run s = .next s.microStep := by
  cases h : s.seq with
  | idle => exact absurd h hs
  | busy i k events => simp only [stepWith, hr, h]

/-- Out of reset an idle block runs the decoded request. -/
theorem stepWith_request {r : Request} {rest : List Request} {i : Instr} (hr : s.rst = false) (hs : s.seq = .idle)
    (hl : s.script = r :: rest) (hd : decode r = .ok i) : stepWith run s = run i (s.take r rest) := by
  simp only [stepWith, hr, hs, hl, hd]

end

/-! In both views running an instruction leaves the inputs alone (`exec_sameInputs`, `acceptMicro_sameInputs`): then no step
changes the configuration, and the latches change by sampling a request only. -/

theorem stepWith_cfg {run : Instr → State → Result} (hrun : ∀ i s t, run i s = .next t → s.SameInputs t)
    {s t : State} (h : stepWith run s = .next t) : t.cfg = s.cfg := by
  obtain ⟨-, -, rfl⟩ | ⟨-, -, rfl⟩ | ⟨-, -, -, rfl⟩ | ⟨-, -, r, rest, i, -, -, h⟩ := stepWith_next h
  · rfl
  · exact s.microStep_sameInputs.cfg
  · rfl
  · exact (hrun _ _ _ h).cfg.trans (s.take_cfg r rest)

theorem stepWith_busy_latches {run : Instr → State → Result} {s t : State} (hs : s.seq ≠ .idle)
    (h : stepWith run s = .next t) : t.latchA = s.latchA ∧ t.latchB = s.latchB := by
  obtain ⟨-, hi, -⟩ | ⟨-, -, rfl⟩ | ⟨-, hi, -⟩ | ⟨-, hi, -⟩ := stepWith_next h
  · exact absurd hi hs
  · exact ⟨s.microStep_sameInputs.latchA, s.microStep_sameInputs.latchB⟩
  · exact absurd hi hs
  · exact absurd hi hs

theorem stepWith_host_latches {run : Instr → State → Result} (hrun : ∀ i s t, run i s = .next t → s.SameInputs t)
    {s t : State} {w : BitVec 20} {rest : List Request} (hr : s.rst = false) (hs : s.seq = .idle)
    (hl : s.script = .host w :: rest) (h : stepWith run s = .next t) : t.latchA = reqA w ∧ t.latchB = reqB w := by
  obtain ⟨hr', -⟩ | ⟨-, hs', -⟩ | ⟨-, -, hl', -⟩ | ⟨-, -, r, rest', i, hl', -, h⟩ := stepWith_next h
  · simp [hr] at hr'
  · exact absurd hs hs'
  · simp [hl] at hl'
  · rw [hl] at hl'
    injection hl' with hw hrest
    subst hw hrest
    exact ⟨(hrun _ _ _ h).latchA, (hrun _ _ _ h).latchB⟩

/-! ### Tier 1: the register, the pins -/

/-- Settles O2: finite facts about three flags and about one byte. -/
theorem packIsTheDisplayControlByte : Obligations.PackIsTheDisplayControlByte := by
  refine ⟨fun _ => rfl, ?_, ?_⟩
  · rintro ⟨d, c, b⟩
    revert d c b
    decide
  · intro v
    refine fun hlo hhi => ⟨?_, rfl⟩
    revert v
    decide

/-- Reading a pin of a `PerPin` after one pin was written. -/
theorem PerPin.get_put {α : Type} (x : PerPin α) (p q : Pin) (a : α) :
    (x.put p a).get q = if q = p then a else x.get q := by
  cases p <;> cases q <;> rfl

/-- Settles O3: each event's own equation, and the definition of the electrical level case by case. -/
theorem eventsMovePinRegisters : Obligations.EventsMovePinRegisters := by
  refine ⟨fun p => ?_, fun s p q => ⟨s.oe.get_put p q true, rfl⟩, fun s p q l => ⟨s.lvl.get_put p q (some l), rfl⟩,
    fun _ _ => ⟨rfl, rfl⟩, fun _ _ => rfl, fun s p l => ⟨fun ho hl => ?_, fun ho hl => ?_, fun ho => ?_⟩⟩
  · cases p <;> exact ⟨rfl, rfl⟩
  · simp [State.electrical, ho, hl]
  · simp [State.electrical, ho, hl]
  · simp [State.electrical, ho]

/-! ### Tier 2: frames of the step and of the operations -/

/-- Settles O14: a request is sampled by `take`, and neither view's operation nor a micro-step writes a latch. -/
theorem operandLatchesSampleOnce : Obligations.OperandLatchesSampleOnce := by
  refine ⟨fun s t w rest hr hs hl h => ?_, fun s t hs h => ?_⟩
  · exact h.elim (stepWith_host_latches (fun _ _ _ => exec_sameInputs) hr hs hl)
      (stepWith_host_latches (fun _ _ _ => acceptMicro_sameInputs) hr hs hl)
  · exact h.elim (stepWith_busy_latches hs) (stepWith_busy_latches hs)

/-- Settles O41. -/
theorem noStepChangesTheConfiguration : Obligations.NoStepChangesTheConfiguration := fun _ _ h =>
  h.elim (stepWith_cfg fun _ _ _ => exec_sameInputs) (stepWith_cfg fun _ _ _ => acceptMicro_sameInputs)

/-- Settles O44: the opening makes the only writes of acceptance. -/
theorem microAcceptanceWritesTheRegisterFirst : Obligations.MicroAcceptanceWritesTheRegisterFirst := by
  refine ⟨fun s r rest i hr hs hl hd => stepWith_request hr hs hl hd, fun s t i hs h => ?_⟩
  obtain ⟨hb, -⟩ | ⟨-, -, s1, events, ho, rfl⟩ := acceptMicro_next h
  · exact absurd hs hb
  · have hdcr := opening_dcr ho
    rw [opening_state ho] at hdcr ⊢
    exact ⟨events, rfl, hdcr, rfl, rfl, rfl, rfl, rfl, rfl⟩

/-- Settles O16: the two branches of a micro-step. -/
theorem busyStepPerformsTheNextEvent : Obligations.BusyStepPerformsTheNextEvent := by
  intro s i k events hr hs
  have hstep : step s = .next s.microStep := stepWith_busy hr (by simp [hs])
  refine ⟨fun e he => ⟨_, hstep, ?_⟩, fun hk => ⟨_, hstep, ?_⟩⟩
  · rw [State.microStep_event hs he]
    by_cases hi : i = .setup
    · simp [hi, State.setupWrites_eq]
    · simp [hi]
  · rw [State.microStep_deliver hs hk.ge, State.deliver_eq]
    refine ⟨rfl, rfl, rfl, rfl, rfl, rfl, rfl, fun hh => ⟨by simp [hh], fun n => ?_⟩⟩
    simp only [hh, if_true]
    cases i with
    | write ch => simp [returnValue, eq_comm]
    | _ => simp [returnValue]

end Sys2Proof.Machine

/-! ## The family of 10_state.md: the frame of the operations, and the micro-steps in sequence -/

namespace Sys2Proof.Machine

/-! ### Only SETUP touches INIT, the output enables and the modes -/

/-- A transaction configures no pin. -/
theorem mode_notMem_sendTrace (cfg : Config) (v : Byte) (m : TxMode) (p : Pin) : Event.mode p ∉ sendTrace cfg v m := by
  cases h : cfg.settlePerCycle <;> simp [sendTrace, preamble, shiftByte, msbFirst, clockBit, h]

/-- The trace of an operation other than SETUP moves no output enable and configures no pin. -/
theorem opening_oe {i : Instr} {s s1 : State} {events : List Event} (hi : i ≠ .setup)
    (h : opening i s = .ok (s1, events)) :
    (∀ oe, events.foldl Event.onOe oe = oe) ∧ ∀ p, Event.mode p ∉ events := by
  obtain ⟨v, m, tail, rfl, rfl | ⟨n, rfl⟩, -⟩ := opening_shape hi h <;> simp [mode_notMem_sendTrace]

/-- Settles O39: the operation is one transaction and at most one wait, which move no `OE`. -/
theorem onlySetupChangesInitAndOutputEnables : Obligations.OnlySetupChangesInitAndOutputEnables := by
  intro s t i hi h
  obtain ⟨-, rfl⟩ | ⟨-, -, s1, events, ho, rfl⟩ := exec_next h
  · exact ⟨rfl, rfl, [], by simp, by simp⟩
  · obtain ⟨hoe, hmode⟩ := opening_oe hi ho
    rw [opening_state ho, State.concluded_eq]
    exact ⟨by simp [hi], hoe s.oe, events, rfl, hmode⟩

/-! ### `DCR` is the toggles' alone -/

/-- The opening of an instruction other than SETUP and the toggles does not see `DCR`. -/
theorem opening_withDcr {i : Instr} {s s1 : State} {events : List Event} (hi : i ≠ .setup) (ht : toggleOf i = none)
    (h : opening i s = .ok (s1, events)) (dcr : Dcr) :
    opening i { s with dcr := dcr } = .ok ({ s1 with dcr := dcr }, events) := by
  cases i with
  | setup => exact absurd rfl hi
  | displayOn | displayOff | cursorOn | cursorOff | blinkOn | blinkOff => cases ht
  | setCursor col row =>
    obtain ⟨off, hrow, hr⟩ | ⟨rfl, hr⟩ := s.rotRead_clampRow row
    · simp only [opening, hr, Except.ok.injEq, Prod.mk.injEq] at h
      obtain ⟨rfl, rfl⟩ := h
      simp only [opening, State.rotRead_table _ hrow]
    · simp only [opening, hr, Except.ok.injEq, Prod.mk.injEq] at h
      obtain ⟨rfl, rfl⟩ := h
      simp only [opening, show clampRow 4 = 4 by decide, State.rotRead_four]
      rfl
  | _ =>
    simp only [opening, Except.ok.injEq, Prod.mk.injEq] at h
    obtain ⟨rfl, rfl⟩ := h
    rfl

/-- Settles O40: neither the checks, the opening nor the conclusion looks at `DCR`. -/
theorem dcrIsTheTogglesAlone : Obligations.DcrIsTheTogglesAlone := by
  intro s t i dcr hi ht h
  have hgate : State.gate { s with dcr := dcr } i = s.gate i := rfl
  obtain ⟨hs, rfl⟩ | ⟨hs, hg, s1, events, ho, rfl⟩ := exec_next h
  · rw [exec_eq]
    exact State.accepted_busy hs
  · rw [exec_run (s := { s with dcr := dcr }) hs (hgate.trans hg) (opening_withDcr hi ht ho dcr)]
    simp [State.concluded_eq, hi, State.emit]

/-! ### The micro-steps in sequence -/

/-- The state in which the operation i, opened to `s` with trace t, has performed its first k events: SETUP's writes are
made with their events (10_state.md R29, log 18). -/
def State.progressed (s : State) (i : Instr) (t : List Event) (k : Nat) : State :=
  { s.emit (t.take k) with
    dcr := if i = .setup ∧ (setupOpening s.cfg).length < k then s.dcr.set .d true else s.dcr
    init := if i = .setup ∧ k = t.length then .ready else if i = .setup ∧ 5 < k then .initializing else s.init
    seq := .busy i k t }

/-- Acceptance has performed no event yet. -/
theorem State.progressed_zero {s : State} {i : Instr} {t : List Event} (ht : t ≠ []) :
    s.progressed i t 0 = s.setSeq (.busy i 0 t) := by
  have hlen : 0 ≠ t.length := (List.length_pos_of_ne_nil ht).ne
  simp [State.progressed, hlen, State.emit, State.setSeq]

/-- A micro-step performs one more event. -/
theorem State.microStep_progressed {s : State} {i : Instr} {t : List Event} {k : Nat} (hk : k < t.length) :
    (s.progressed i t k).microStep = s.progressed i t (k + 1) := by
  have htake : t.take (k + 1) = t.take k ++ [t[k]] := by simp
  rw [State.microStep_event rfl (List.getElem?_eq_getElem hk)]
  by_cases hi : i = .setup
  · simp only [State.progressed, State.setupWrites_eq, State.emit, State.setSeq, htake, hi, true_and, and_true, if_true,
      List.foldl_append, List.foldl_cons, List.foldl_nil, List.append_assoc, State.mk.injEq]
    refine ⟨?dcr, ?init⟩
    case dcr => grind
    case init => grind
  · simp only [State.progressed, htake, ← State.emit_emit, hi, false_and, if_false]
    rfl

/-- With all events performed, delivering is the conclusion of the atomic operation; SETUP's trace goes past its opening. -/
theorem State.deliver_progressed {s : State} {i : Instr} {t : List Event} (hs : s.seq = .idle)
    (ht : i = .setup → (setupOpening s.cfg).length < t.length) :
    (s.progressed i t t.length).deliver i = s.concluded i t := by
  by_cases hi : i = .setup
  · simp [State.deliver_eq, State.concluded_eq, State.progressed, State.emit, hi, ht hi, hs]
  · simp [State.deliver_eq, State.concluded_eq, State.progressed, State.emit, hi, hs]

/-- A run goes on from the next state of its first step. -/
theorem run_succ {s t : State} (h : step s = .next t) (n : Nat) :
    Host.Core.run Sys2Proof.core (n + 1) s = Host.Core.run Sys2Proof.core n t := by
  simp only [Host.Core.run, show Sys2Proof.core.step s = .next t from h]

/-- Out of reset, d events before the end, d + 1 steps bring the operation to its delivery. -/
theorem run_progressed {s : State} {i : Instr} {t : List Event} (hr : s.rst = false) (d k : Nat) (hk : k + d = t.length) :
    Host.Core.run Sys2Proof.core (d + 1) (s.progressed i t k) = .next ((s.progressed i t t.length).deliver i) := by
  have hstep : step (s.progressed i t k) = .next (s.progressed i t k).microStep :=
    stepWith_busy hr (by simp [State.progressed])
  induction d generalizing k with
  | zero =>
    obtain rfl : k = t.length := hk
    rw [run_succ hstep, State.microStep_deliver rfl le_rfl]
    rfl
  | succ d ih =>
    rw [run_succ hstep, State.microStep_progressed (by omega)]
    exact ih (k + 1) (by omega) (stepWith_busy hr (by simp [State.progressed]))

/-- No operation has an empty trace, and SETUP's goes on after its opening. -/
theorem opening_events {i : Instr} {s s1 : State} {events : List Event} (h : opening i s = .ok (s1, events)) :
    events ≠ [] ∧ (i = .setup → (setupOpening s1.cfg).length < events.length) := by
  by_cases hi : i = .setup
  · subst hi
    simp only [opening, Except.ok.injEq, Prod.mk.injEq] at h
    obtain ⟨rfl, rfl⟩ := h
    simp [setupTrace, settledCommand]
  · obtain ⟨v, m, tail, rfl, -⟩ := opening_shape hi h
    simp [sendTrace, hi]

/-- Settles O45: the events one by one and the delivery give the conclusion; the refusals are those of the checks in both
views. -/
theorem microStepsComposeToTheOperation : Obligations.MicroStepsComposeToTheOperation := by
  intro s i hs hr
  refine ⟨fun t h => ?_, fun r => (exec_refused_iff hs r).trans (acceptMicro_refused_iff hs r).symm⟩
  obtain ⟨hb, -⟩ | ⟨-, hg, s1, events, ho, rfl⟩ := exec_next h
  · exact absurd hs hb
  · obtain ⟨hne, hlong⟩ := opening_events ho
    have hs1 : s1.seq = .idle := by rw [opening_state ho]; exact hs
    have hr1 : s1.rst = false := (opening_sameInputs ho).rst.trans hr
    refine ⟨_, events, acceptMicro_run hs hg ho, rfl, ?_⟩
    rw [← State.progressed_zero hne, ← State.deliver_progressed hs1 hlong]
    exact run_progressed hr1 events.length 0 (by simp)

end Sys2Proof.Machine

/-! ## The family of 10_state.md: the invariant of R36 -/

namespace Sys2Proof.Machine

/-! ### What a receiver reads -/

/-- Within a frame a clock cycle is one sample, the level it drives (30_encoding.md R64). -/
theorem Receiver.run_clockBit (cfg : Config) (b : Level) (lvl : PerPin (Option Level)) (f : List (Option Level))
    (fs : List (List (Option Level))) :
    Receiver.run { lvl := lvl, frame := some f, frames := fs } (clockBit cfg b) =
      { lvl := { lvl with clk := some false, dat := some b }, frame := some (f ++ [some b]), frames := fs } := by
  cases h : cfg.settlePerCycle <;> simp [clockBit, h, Receiver.run, Receiver.event, Event.onLvl, PerPin.put]

/-- A receiver does not see the settle at the end of a byte: it reads the eight cycles alone. -/
theorem Receiver.run_shiftByte (cfg : Config) (v : Byte) (r : Receiver) :
    r.run (shiftByte cfg v) = r.run ((msbFirst v).flatMap (clockBit cfg)) := by
  cases h : cfg.settlePerCycle <;> simp [shiftByte, h]

/-- A receiver between frames recovers from a transaction one more frame and is between frames again (R64). -/
theorem Receiver.run_sendTrace (r : Receiver) (cfg : Config) (v : Byte) (m : TxMode) (h : r.frame = none) :
    r.run (sendTrace cfg v m) =
      { lvl := { sel := some true, clk := some false, dat := some (v.getLsbD 0) }
        frame := none
        frames := r.frames ++ [(encodeFrame v m).map some] } := by
  have hopen : r.run [.drive .sel false] = { lvl := r.lvl.put .sel (some false), frame := some [], frames := r.frames } := by
    simp [Receiver.run, Receiver.event, Event.onLvl, h]
  simp only [sendTrace, preamble, Receiver.run_append, Receiver.run_shiftByte, hopen, Receiver.run_clockBit, msbFirst,
    List.flatMap_cons, List.flatMap_nil, Receiver.run_nil]
  simp [Receiver.run, Receiver.event, Event.onLvl, PerPin.put, encodeFrame, msbFirst]

/-- What a receiver recovers from one transaction (R61, R62). -/
def frameOf (x : TxMode × Byte) : List (Option Level) := (encodeFrame x.2 x.1).map some

/-- The events are the transactions `sent`, in order, as a receiver between frames reads them: whole frames only. -/
structure Carries (events : List Event) (sent : List (TxMode × Byte)) : Prop where
  frame : ∀ r : Receiver, r.frame = none → (r.run events).frame = none
  frames : ∀ r : Receiver, r.frame = none → (r.run events).frames = r.frames ++ sent.map frameOf

theorem Carries.append {events events' : List Event} {sent sent' : List (TxMode × Byte)} (h : Carries events sent)
    (h' : Carries events' sent') : Carries (events ++ events') (sent ++ sent') where
  frame r hr := by rw [Receiver.run_append]; exact h'.frame _ (h.frame r hr)
  frames r hr := by
    rw [Receiver.run_append, h'.frames _ (h.frame r hr), h.frames r hr, List.map_append, List.append_assoc]

theorem carries_sendTrace (cfg : Config) (v : Byte) (m : TxMode) : Carries (sendTrace cfg v m) [(m, v)] where
  frame r hr := by rw [r.run_sendTrace cfg v m hr]
  frames r hr := by rw [r.run_sendTrace cfg v m hr]; rfl

theorem carries_wait (n : Nat) : Carries [.wait n] [] := ⟨fun _ hr => hr, fun _ _ => (List.append_nil _).symm⟩

theorem carries_settledCommand (cfg : Config) (v : Byte) (n : Nat) : Carries (settledCommand cfg v n) [(.command, v)] :=
  (carries_sendTrace cfg v .command).append (carries_wait n)

/-- Driving chip-select high between frames starts and ends none. -/
theorem carries_pinSetup : Carries pinSetup [] where
  frame r hr := by simp [pinSetup, Receiver.run, Receiver.event, hr]
  frames r hr := by simp [pinSetup, Receiver.run, Receiver.event, hr]

/-- SETUP's five frames, the entry mode set last (44_clear_home_setup.md R142). -/
theorem carries_setupTrace (cfg : Config) (dcr : Dcr) :
    Carries (setupTrace cfg dcr)
      ([(.command, functionSetByte (cfg.fsDefault.setWidth 8)), (.command, pack dcr), (.command, opcClear),
        (.command, opcHome)] ++ [(.command, entryModeByte (emIncrement ||| emShiftLeft))]) := by
  have hopening : Carries (setupOpening cfg) [(.command, functionSetByte (cfg.fsDefault.setWidth 8))] :=
    (carries_pinSetup.append (carries_wait _)).append (carries_settledCommand ..)
  exact (((hopening.append (carries_settledCommand ..)).append (carries_settledCommand ..)).append
    (carries_settledCommand ..)).append (carries_settledCommand ..)

/-- The frame reader gives back mode and byte. -/
theorem readFrame_frameOf (x : TxMode × Byte) : readFrame (frameOf x) = some x := by
  have hbyte : ∀ v : Byte, byteOf v[7] v[6] v[5] v[4] v[3] v[2] v[1] v[0] = v := by decide
  obtain ⟨m, v⟩ := x
  cases m <;> simp [frameOf, encodeFrame, msbFirst, modeBit, readFrame, hbyte]

theorem bytesOf_map_frameOf (sent : List (TxMode × Byte)) : bytesOf (sent.map frameOf) = sent := by
  simp [bytesOf, List.filterMap_map, readFrame_frameOf]

/-- The last display-control byte is among what was sent last, or, if none is there, the one before. -/
theorem lastDisplayControl_append {t events : List Event} {sent : List (TxMode × Byte)}
    (ht : (Receiver.start.run t).frame = none) (h : Carries events sent) :
    lastDisplayControl (t ++ events) =
      ((sent.filter isDisplayControl).getLast?.map Prod.snd).or (lastDisplayControl t) := by
  have hbytes : bytesOf (framesOf (t ++ events)) = bytesOf (framesOf t) ++ sent := by
    rw [framesOf, Receiver.run_append, h.frames _ ht, bytesOf, List.filterMap_append]
    exact congrArg _ (bytesOf_map_frameOf sent)
  unfold lastDisplayControl
  rw [hbytes, List.filter_append, List.getLast?_append]
  cases (sent.filter isDisplayControl).getLast? <;> rfl

/-- A command and its settle delay leave the levels its transaction leaves. -/
theorem settledCommand_lvl (cfg : Config) (v : Byte) (n : Nat) (lvl : PerPin (Option Level)) :
    (settledCommand cfg v n).foldl Event.onLvl lvl =
      { sel := some true, clk := some false, dat := some (v.getLsbD 0) } := by
  rw [settledCommand, List.foldl_append, sendTrace_lvl]
  rfl

/-! ### Which bytes are display control -/

theorem isDisplayControl_pack (dcr : Dcr) : isDisplayControl (.command, pack dcr) = true := by
  obtain ⟨d, c, b⟩ := dcr
  revert d c b
  decide

theorem isDisplayControl_data (v : Byte) : isDisplayControl (.data, v) = false := rfl

theorem isDisplayControl_setDdramByte (a : Byte) : isDisplayControl (.command, setDdramByte a) = false := by
  revert a
  decide

theorem isDisplayControl_entryModeByte {flags : Byte} (h : malformedFlags flags = false) :
    isDisplayControl (.command, entryModeByte flags) = false := by
  revert flags
  decide

theorem isDisplayControl_functionSetByte {flags : Byte} (h : malformedFlags flags = false) :
    isDisplayControl (.command, functionSetByte flags) = false := by
  revert flags
  decide

/-- `FS_DEFAULT` is a legal flag byte (00_scope.md R7). -/
theorem malformedFlags_setWidth (table : BitVec 2) : malformedFlags (table.setWidth 8) = false := by
  revert table
  decide

/-- What a transaction does to R36(e): it puts `pack(DCR)` on the link, or it is no display control and `DCR` stays. -/
def ShowsDcr (old new : Dcr) (x : TxMode × Byte) : Prop :=
  x = (.command, pack new) ∨ (new = old ∧ isDisplayControl x = false)

/-- A host operation other than SETUP carries one transaction, whose bit 0 the data pin keeps, and it shows `DCR` unless it
records malformed flags. -/
theorem opening_transaction {i : Instr} {s s1 : State} {events : List Event} (hh : i.isHostOp = true) (hi : i ≠ .setup)
    (h : opening i s = .ok (s1, events)) :
    ∃ x : TxMode × Byte, Carries events [x] ∧
      events.foldl Event.onLvl s.lvl = { sel := some true, clk := some false, dat := some (x.2.getLsbD 0) } ∧
      (s1.marks.malformedFlags = false → ShowsDcr s.dcr s1.dcr x) := by
  cases i with
  | setup => exact absurd rfl hi
  | cmdClearDisplay | cmdReturnHome | cmdEntryModeSet | cmdDisplayControl | cmdFunctionSet | cmdSetDdramAddress
  | frameCommand | frameData => cases hh
  | setCursor col row =>
    obtain ⟨off, _, hr⟩ | ⟨_, hr⟩ := s.rotRead_clampRow row <;>
      simp only [opening, hr, Except.ok.injEq, Prod.mk.injEq] at h <;> obtain ⟨rfl, rfl⟩ := h <;>
      exact ⟨_, carries_sendTrace .., sendTrace_lvl .., fun _ => .inr ⟨rfl, isDisplayControl_setDdramByte _⟩⟩
  | write ch =>
    simp only [opening, Except.ok.injEq, Prod.mk.injEq] at h
    obtain ⟨rfl, rfl⟩ := h
    exact ⟨_, carries_sendTrace .., sendTrace_lvl .., fun _ => .inr ⟨rfl, isDisplayControl_data ch⟩⟩
  | setEntryMode flags =>
    simp only [opening, Except.ok.injEq, Prod.mk.injEq] at h
    obtain ⟨rfl, rfl⟩ := h
    refine ⟨_, carries_settledCommand .., settledCommand_lvl .., fun hm => .inr ⟨rfl, ?_⟩⟩
    exact isDisplayControl_entryModeByte (Bool.or_eq_false_iff.mp hm).2
  | setFunctionSet flags =>
    simp only [opening, Except.ok.injEq, Prod.mk.injEq] at h
    obtain ⟨rfl, rfl⟩ := h
    refine ⟨_, carries_settledCommand .., settledCommand_lvl .., fun hm => .inr ⟨rfl, ?_⟩⟩
    exact isDisplayControl_functionSetByte (Bool.or_eq_false_iff.mp hm).2
  | clear | home =>
    simp only [opening, Except.ok.injEq, Prod.mk.injEq] at h
    obtain ⟨rfl, rfl⟩ := h
    exact ⟨_, carries_settledCommand .., settledCommand_lvl .., fun _ => .inr ⟨rfl, by decide⟩⟩
  | displayOn | displayOff | cursorOn | cursorOff | blinkOn | blinkOff =>
    simp only [opening, State.openToggle, Except.ok.injEq, Prod.mk.injEq] at h
    obtain ⟨rfl, rfl⟩ := h
    exact ⟨_, carries_settledCommand .., settledCommand_lvl .., fun _ => .inl rfl⟩

/-- Which marks an opening sets: V3 for row 4, V4 for malformed flags, each on top of the old (60_exceptions.md R163). -/
theorem opening_marks {i : Instr} {s s1 : State} {events : List Event} (h : opening i s = .ok (s1, events)) :
    (s1.marks.rowIndexPastTable = true ↔ s.marks.rowIndexPastTable = true ∨ ∃ col, i = .setCursor col 4) ∧
    (s1.marks.malformedFlags = true ↔ s.marks.malformedFlags = true ∨
      ∃ flags, malformedFlags flags = true ∧ (i = .setEntryMode flags ∨ i = .setFunctionSet flags)) := by
  cases i with
  | setCursor col row =>
    obtain ⟨off, hrow, hr⟩ | ⟨rfl, hr⟩ := s.rotRead_clampRow row <;>
      simp only [opening, hr, Except.ok.injEq, Prod.mk.injEq] at h <;> obtain ⟨rfl, rfl⟩ := h
    · have hfour : Memory.read rot (clampRow 4).toNat = none := by decide
      have hne : row ≠ 4 := by
        rintro rfl
        rw [hfour] at hrow
        cases hrow
      simpa using fun h => absurd h hne
    · simp
  | _ =>
    simp only [opening, State.openToggle, Except.ok.injEq, Prod.mk.injEq] at h
    obtain ⟨rfl, rfl⟩ := h
    simp

/-- A mark is never cleared (60_exceptions.md R162). -/
theorem opening_malformedFlags {i : Instr} {s s1 : State} {events : List Event} (h : opening i s = .ok (s1, events))
    (hm : s1.marks.malformedFlags = false) : s.marks.malformedFlags = false := by
  rw [← Bool.not_eq_true] at hm ⊢
  exact fun hs => hm ((opening_marks h).2.mpr (.inl hs))

/-- With legal operands the run stays without violation (60_exceptions.md R162). -/
theorem opening_clean {i : Instr} {s s1 : State} {events : List Event} (h : opening i s = .ok (s1, events))
    (hi : i.wellFormed = true) (hs : s.clean = true) : s1.clean = true := by
  obtain ⟨hrow, hflags⟩ := opening_marks h
  simp only [State.clean, Bool.and_eq_true, Bool.not_eq_true', ← Bool.not_eq_true] at hs ⊢
  refine ⟨fun hm => ?_, fun hm => ?_⟩
  · obtain hm | ⟨col, rfl⟩ := hrow.mp hm
    · exact hs.1 hm
    · simp [Instr.wellFormed] at hi
  · obtain hm | ⟨flags, hbad, rfl | rfl⟩ := hflags.mp hm
    · exact hs.2 hm
    all_goals simp [Instr.wellFormed, hbad] at hi

/-! ### The invariant across one operation -/

/-- What `settled` says of a state in Ready. -/
theorem State.settled_ready {s : State} (h : s.init = .ready) :
    s.settled ↔ (Receiver.start.run s.trace).frame = none ∧
      s.oe = { sel := true, clk := true, dat := true } ∧ s.lvl.sel = some true ∧ s.lvl.clk = some false ∧
      (∃ m v, (framesOf s.trace).getLast? = some ((encodeFrame v m).map some) ∧ s.lvl.dat = some (v.getLsbD 0)) ∧
      (s.marks.malformedFlags = false → lastDisplayControl s.trace = some (pack s.dcr)) := by
  unfold State.settled
  rw [h]

/-- Whole frames after a trace of whole frames, the last of them `last`, settle the block. -/
theorem State.settled_of_carries {s t : State} {events : List Event} {sent : List (TxMode × Byte)}
    {last : TxMode × Byte} (hframe : (Receiver.start.run s.trace).frame = none) (hc : Carries events (sent ++ [last]))
    (htrace : t.trace = s.trace ++ events) (hinit : t.init = .ready) (hoe : t.oe = { sel := true, clk := true, dat := true })
    (hlvl : t.lvl = { sel := some true, clk := some false, dat := some (last.2.getLsbD 0) })
    (hlast : t.marks.malformedFlags = false → lastDisplayControl t.trace = some (pack t.dcr)) : t.settled := by
  rw [State.settled_ready hinit]
  refine ⟨?_, hoe, by rw [hlvl], by rw [hlvl], ⟨last.1, last.2, ?_, by rw [hlvl]⟩, hlast⟩
  · rw [htrace, Receiver.run_append]
    exact hc.frame _ hframe
  · rw [htrace, framesOf, Receiver.run_append, hc.frames _ hframe, List.map_append, List.map_singleton,
      ← List.append_assoc, List.getLast?_concat]
    rfl

/-- SETUP settles the block, from any trace of whole frames. -/
theorem State.settled_setup {s : State} (hframe : (Receiver.start.run s.trace).frame = none) :
    (s.concluded .setup (setupTrace s.cfg (s.dcr.set .d true))).settled := by
  have hc := carries_setupTrace s.cfg (s.dcr.set .d true)
  refine State.settled_of_carries hframe hc rfl rfl ?_ ?_ fun _ => ?_
  · simp [State.concluded_eq, setupTrace, setupOpening, settledCommand, pinSetup, Event.onOe, PerPin.put]
  · simp [State.concluded_eq, setupTrace, settledCommand]
  · have hbytes : ∀ x ∈ [opcClear, opcHome, entryModeByte (emIncrement ||| emShiftLeft)],
        isDisplayControl (.command, x) = false := by decide
    have htrace : (s.concluded .setup (setupTrace s.cfg (s.dcr.set .d true))).trace =
        s.trace ++ setupTrace s.cfg (s.dcr.set .d true) := rfl
    rw [htrace, lastDisplayControl_append hframe hc]
    simp [isDisplayControl_functionSetByte (malformedFlags_setWidth _), isDisplayControl_pack, hbytes]
    simp [State.concluded_eq]

/-- A host operation other than SETUP keeps a Ready block settled. -/
theorem State.settled_concluded {i : Instr} {s s1 : State} {events : List Event} (hh : i.isHostOp = true)
    (hi : i ≠ .setup) (hready : s.init = .ready) (hs : s.settled) (ho : opening i s = .ok (s1, events)) :
    (s1.concluded i events).settled := by
  obtain ⟨hframe, hoe, -, -, -, hold⟩ := (State.settled_ready hready).mp hs
  obtain ⟨x, hc, hlvl, hshow⟩ := opening_transaction hh hi ho
  obtain ⟨hkeep, -⟩ := opening_oe hi ho
  rw [State.concluded_eq]
  have hst := opening_state ho
  refine State.settled_of_carries (s := s) (sent := []) (last := x) hframe hc ?_ ?_ ?_ ?_ fun hm => ?_
  · rw [hst]; rfl
  · rw [hst]; simp [hi, hready]
  · rw [hst]; exact (hkeep _).trans hoe
  · rw [hst]; exact hlvl
  · have htrace : (s1.emit events).trace = s.trace ++ events := by rw [hst]; rfl
    simp only [htrace, hi, if_false, lastDisplayControl_append hframe hc]
    obtain rfl | ⟨hdcr, hx⟩ := hshow hm
    · simp [isDisplayControl_pack]
    · simp [hx, hold (opening_malformedFlags ho hm), hdcr]

/-- The checks of a host operation other than SETUP (60_exceptions.md R163). -/
theorem State.gate_host {s : State} {i : Instr} (hh : i.isHostOp = true) (hi : i ≠ .setup) : s.gate i = s.gateReady := by
  simp [State.gate, hh, hi]

/-- Every host operation keeps an idle block settled: SETUP from any trace of whole frames, the others from Ready. -/
theorem exec_settled {i : Instr} {s t : State} (hh : i.isHostOp = true) (hs : s.settled) (h : exec i s = .next t) :
    t.settled := by
  obtain ⟨-, rfl⟩ | ⟨-, hg, s1, events, ho, rfl⟩ := exec_next h
  · exact hs
  · by_cases hi : i = .setup
    · subst hi
      simp only [opening, Except.ok.injEq, Prod.mk.injEq] at ho
      obtain ⟨rfl, rfl⟩ := ho
      exact State.settled_setup hs.1
    · rw [State.gate_host hh hi] at hg
      exact State.settled_concluded hh hi (State.gateReady_none.mp hg).2 hs ho

/-! ### The invariant across one step -/

theorem State.completed_idle {s : State} (h : s.seq = .idle) : s.completed = s := by
  unfold State.completed
  rw [h]

/-- A micro-step of the operation in progress does not change what it comes to. -/
theorem State.completed_microStep (s : State) : s.microStep.completed = s.completed := by
  cases hs : s.seq with
  | idle => simp only [State.microStep, hs]
  | busy i k t =>
    have hc : s.completed = State.microSteps (t.length - k) s.microStep := by
      simp only [State.completed, hs, State.microSteps]
    by_cases hk : k < t.length
    · have hnext : s.microStep.seq = .busy i (k + 1) t := by
        rw [State.microStep_event hs (List.getElem?_eq_getElem hk)]
        rfl
      have hlen : t.length - (k + 1) + 1 = t.length - k := by omega
      rw [hc]
      simp only [State.completed, hnext, hlen]
    · have hidle : s.microStep.seq = .idle := by
        rw [State.microStep_deliver hs (by omega)]
        rfl
      rw [hc, State.completed_idle hidle, Nat.sub_eq_zero_of_le (by omega)]
      rfl

/-- Taking a request off the port touches nothing R36 speaks of. -/
theorem State.settled_take {s : State} {r : Request} {rest : List Request} : (s.take r rest).settled ↔ s.settled := by
  simp [State.settled]

/-- A host word names a host operation (30_encoding.md R72). -/
theorem isHostOp_of_decode {r : Request} {i : Instr} (hr : r.isHost = true) (h : decode r = .ok i) :
    i.isHostOp = true := by
  cases r with
  | command b => cases hr
  | frame f => cases hr
  | host w =>
    simp only [decode, decodeHost, hostInstr] at h
    split at h <;> cases h <;> rfl

/-- Settles O46. -/
theorem invariantHoldsAtReset : Obligations.InvariantHoldsAtReset := by
  refine ⟨fun r hr => ?_, rfl, rfl, rfl, rfl⟩
  cases hr

/-- Settles O47: held reset and waiting settle by their values, a micro-step does not change what the operation comes to, and
an operation adds whole frames whose last display-control byte shows `DCR`. -/
theorem everyStepKeepsTheInvariant : Obligations.EveryStepKeepsTheInvariant := by
  rintro s t ⟨hhost, hset⟩ h
  obtain ⟨-, hs, rfl⟩ | ⟨-, -, rfl⟩ | ⟨-, hs, -, rfl⟩ | ⟨-, hs, r, rest, i, hl, hd, h⟩ := stepWith_next h
  · exact ⟨hhost, rfl, rfl, rfl, rfl⟩
  · refine ⟨?_, by rwa [State.completed_microStep]⟩
    rw [State.hostOnly, s.microStep_sameInputs.script]
    exact hhost
  · rw [State.completed_idle hs] at hset
    exact ⟨hhost, by rwa [State.completed_idle (s.wait_seq.trans hs)]⟩
  · rw [State.hostOnly, hl] at hhost
    rw [State.completed_idle hs] at hset
    have hkeep := exec_sameInputs h
    have hidle : t.seq = .idle := by rw [exec_seq h, State.take_seq, hs]
    refine ⟨?_, ?_⟩
    · rw [State.hostOnly, hkeep.script, State.take_script]
      exact fun q hq => hhost q (.tail r hq)
    · rw [State.completed_idle hidle]
      exact exec_settled (isHostOp_of_decode (hhost r (.head rest)) hd) (State.settled_take.mpr hset) h

/-! ### Sessions -/

/-- The decoder reads back every encoded instruction. -/
theorem decode_encode : ∀ i : Instr, decode (encode i) = .ok i
  | .setup => Laws.RoundTrip.setup
  | .clear => Laws.RoundTrip.clear
  | .home => Laws.RoundTrip.home
  | .displayOn => Laws.RoundTrip.displayOn
  | .displayOff => Laws.RoundTrip.displayOff
  | .cursorOn => Laws.RoundTrip.cursorOn
  | .cursorOff => Laws.RoundTrip.cursorOff
  | .blinkOn => Laws.RoundTrip.blinkOn
  | .blinkOff => Laws.RoundTrip.blinkOff
  | .setCursor col row => Laws.RoundTrip.setCursor col row
  | .setEntryMode flags => Laws.RoundTrip.setEntryMode flags
  | .setFunctionSet flags => Laws.RoundTrip.setFunctionSet flags
  | .write character => Laws.RoundTrip.write character
  | .cmdClearDisplay => Laws.RoundTrip.cmdClearDisplay
  | .cmdReturnHome => Laws.RoundTrip.cmdReturnHome
  | .cmdEntryModeSet increment shiftRight => Laws.RoundTrip.cmdEntryModeSet increment shiftRight
  | .cmdDisplayControl d c b => Laws.RoundTrip.cmdDisplayControl d c b
  | .cmdFunctionSet table => Laws.RoundTrip.cmdFunctionSet table
  | .cmdSetDdramAddress address => Laws.RoundTrip.cmdSetDdramAddress address
  | .frameCommand v => Laws.RoundTrip.frameCommand v
  | .frameData v => Laws.RoundTrip.frameData v

/-- Between the operations of a legal session, with `ops` still to come: out of reset, idle, no violation, settled. -/
structure State.InSession (s : State) (ops : List Instr) : Prop where
  rst : s.rst = false
  seq : s.seq = .idle
  clean : s.clean = true
  script : s.script = ops.map encode
  settled : s.settled

/-- The checks do not look at the port. -/
theorem State.gate_take (s : State) (r : Request) (rest : List Request) (i : Instr) :
    (s.take r rest).gate i = s.gate i := by
  simp [State.gate, State.gateSetup, State.gateReady, State.gateLink]

/-- A host operation leaves the block Ready: SETUP makes it so, the others need it (10_state.md R25). -/
theorem init_of_exec {i : Instr} {s t : State} (hs : s.seq = .idle) (hh : i.isHostOp = true) (h : exec i s = .next t) :
    t.init = .ready := by
  obtain ⟨hb, -⟩ | ⟨-, hg, s1, events, ho, rfl⟩ := exec_next h
  · exact absurd hs hb
  · rw [State.concluded_eq, opening_state ho]
    by_cases hi : i = .setup
    · simp [hi]
    · rw [State.gate_host hh hi] at hg
      simp [hi, (State.gateReady_none.mp hg).2]

/-- The step on the next legal operation runs it, and the session goes on in Ready. -/
theorem State.InSession.step {s : State} {i : Instr} {ops : List Instr} (h : s.InSession (i :: ops))
    (hh : i.isHostOp = true) (hwf : i.wellFormed = true) (hg : s.gate i = none) :
    ∃ t, Machine.step s = .next t ∧ t.InSession ops ∧ t.cfg = s.cfg ∧ t.init = .ready := by
  obtain ⟨hr, hs, hclean, hscript, hset⟩ := h
  obtain ⟨s1, events, ho⟩ := opening_ok i (s.take (encode i) (ops.map encode))
  have hidle : (s.take (encode i) (ops.map encode)).seq = .idle := by rw [State.take_seq, hs]
  have hexec := exec_run hidle ((s.gate_take ..).trans hg) ho
  have hkeep := exec_sameInputs hexec
  have hclean1 : s1.clean = true := opening_clean ho hwf (by simpa [State.clean] using hclean)
  have hclean' : (s1.concluded i events).clean = true := by
    rw [State.concluded_eq]
    exact hclean1
  refine ⟨_, (stepWith_request hr hs hscript (decode_encode i)).trans hexec, ⟨?_, ?_, hclean', ?_, ?_⟩, ?_, ?_⟩
  · rw [hkeep.rst, State.take_rst, hr]
  · rw [exec_seq hexec, hidle]
  · rw [hkeep.script, State.take_script]
  · exact exec_settled hh (State.settled_take.mpr hset) hexec
  · rw [hkeep.cfg, State.take_cfg]
  · exact init_of_exec hidle hh hexec

/-- From Ready a legal session runs to its end, one step for each operation. -/
theorem State.InSession.run {ops : List Instr}
    (hlegal : ∀ i ∈ ops, i.isHostOp = true ∧ i ≠ .setup ∧ i.wellFormed = true) {s : State} (h : s.InSession ops) (hpins : s.cfg.pinsDistinct = true) (hready : s.init = .ready) :
    ∃ t, Host.Core.run Sys2Proof.core ops.length s = .next t ∧ t.InSession [] ∧ t.init = .ready := by
  induction ops generalizing s with
  | nil => exact ⟨s, rfl, h, hready⟩
  | cons i ops ih =>
    obtain ⟨⟨hh, hi, hwf⟩, hrest⟩ := List.forall_mem_cons.mp hlegal
    have hg : s.gate i = none := (State.gate_host hh hi).trans (State.gateReady_none.mpr ⟨hpins, hready⟩)
    obtain ⟨s', hstep, h', hcfg, hready'⟩ := h.step hh hwf hg
    rw [List.length_cons, run_succ hstep]
    exact ih hrest h' (hcfg ▸ hpins) hready'

/-- Settles O48: SETUP is the first step of a session, and a session without violation ends settled in Ready. -/
theorem legalSessionsReachAGoodEnd : Obligations.LegalSessionsReachAGoodEnd := by
  intro cfg ops hpins hlegal
  have hstart : State.InSession { State.reset with cfg := cfg, script := (Instr.setup :: ops).map encode }
      (.setup :: ops) := ⟨rfl, rfl, rfl, rfl, rfl, rfl, rfl, rfl⟩
  obtain ⟨s, hstep, hs, hcfg, hinit⟩ :=
    hstart.step rfl rfl (State.gateSetup_none.mpr ⟨hpins, .inl rfl⟩)
  obtain ⟨t, hrun, ⟨-, hidle, hclean, hscript, hset⟩, hready⟩ := hs.run hlegal (hcfg ▸ hpins) hinit
  obtain ⟨-, hoe, hsel, hclk, -, hlast⟩ := (State.settled_ready hready).mp hset
  have hmark : t.marks.malformedFlags = false := by
    simp only [State.clean, Bool.and_eq_true, Bool.not_eq_true'] at hclean
    exact hclean.2
  refine ⟨t, (run_succ hstep _).trans hrun, ?_, hready, hoe, hsel, hclk, hlast hmark⟩
  simp [State.goodEnd, State.isBusy, hidle, hscript, hclean]

end Sys2Proof.Machine

/-! ## The family of 20_memory.md: the table read, and what a step does to the trace and to the port -/

namespace Sys2Proof.Machine

/-! ### The row-offset table -/

/-- The row-offset table lists nothing from index 4 on (20_memory.md R41). -/
theorem read_rot_past {a : Nat} (h : 4 ≤ a) : Memory.read rot a = none := by
  simp only [Memory.read, Option.map_eq_none_iff, List.find?_eq_none, beq_iff_eq]
  intro c hc
  have hlt : c.1 < 4 := by
    revert c
    decide
  omega

/-- A read past index 4 is refused (20_memory.md R41). -/
theorem State.rotRead_past (s : State) {i : Byte} (h : 5#8 ≤ i) : s.rotRead i = .error .rotIndexBeyondTable := by
  have hi : 5 ≤ i.toNat := h
  have hne : i ≠ 4 := by
    rintro rfl
    exact absurd hi (by decide)
  simp only [State.rotRead, read_rot_past (Nat.le_of_succ_le hi), if_neg hne]

/-- Settles O4: the four entries, the draw at 4, nothing past it. -/
theorem rotReadIsTheTable : Obligations.RotReadIsTheTable := fun s =>
  ⟨s.rotRead_table rfl, s.rotRead_table rfl, s.rotRead_table rfl, s.rotRead_table rfl, s.rotRead_four,
    fun _ => s.rotRead_past⟩

/-! ### The trace only grows, and the port only shrinks -/

/-- The opening emits nothing (10_state.md R29). -/
theorem opening_trace {i : Instr} {s s1 : State} {events : List Event} (h : opening i s = .ok (s1, events)) :
    s1.trace = s.trace := by
  rw [opening_state h]

/-- An atomic operation appends its events (00_scope.md R9), or waits. -/
theorem exec_trace_prefix {i : Instr} {s t : State} (h : exec i s = .next t) : s.trace <+: t.trace := by
  obtain ⟨-, rfl⟩ | ⟨-, -, s1, events, ho, rfl⟩ := exec_next h
  · exact List.prefix_rfl
  · rw [State.concluded_eq, ← opening_trace ho]
    exact List.prefix_append s1.trace events

/-- Acceptance in the micro-step view performs no event (10_state.md R29). -/
theorem acceptMicro_trace {i : Instr} {s t : State} (h : acceptMicro i s = .next t) : t.trace = s.trace := by
  obtain ⟨-, rfl⟩ | ⟨-, -, s1, events, ho, rfl⟩ := acceptMicro_next h
  · rfl
  · exact (s1.setSeq_trace _).trans (opening_trace ho)

/-- A micro-step appends its event, or delivers without one (10_state.md R29). -/
theorem State.microStep_trace_prefix (s : State) : s.trace <+: s.microStep.trace := by
  cases hs : s.seq with
  | idle => simp [State.microStep, hs]
  | busy i k t =>
    cases he : t[k]? with
    | some e =>
      rw [State.microStep_event hs he]
      by_cases hi : i = .setup <;> simp [hi, State.setupWrites_eq]
    | none =>
      rw [State.microStep_deliver hs (List.getElem?_eq_none_iff.mp he), State.deliver_eq]

/-- Out of reset a step extends the trace when running an instruction does, and takes at most the request at the head of the
port (20_memory.md R50, 30_encoding.md R74). -/
theorem stepWith_trace_script {run : Instr → State → Result} (hinputs : ∀ i s t, run i s = .next t → s.SameInputs t)
    (htrace : ∀ i s t, run i s = .next t → s.trace <+: t.trace) {s t : State} (hr : s.rst = false)
    (h : stepWith run s = .next t) : s.trace <+: t.trace ∧ t.script <:+ s.script := by
  obtain ⟨hr', -⟩ | ⟨-, -, rfl⟩ | ⟨-, -, -, rfl⟩ | ⟨-, -, r, rest, i, hl, -, h⟩ := stepWith_next h
  · simp [hr] at hr'
  · exact ⟨s.microStep_trace_prefix, by rw [s.microStep_sameInputs.script]⟩
  · exact ⟨List.prefix_rfl, List.suffix_rfl⟩
  · constructor
    · simpa using htrace _ _ _ h
    · rw [(hinputs _ _ _ h).script, State.take_script, hl]
      exact List.suffix_cons r rest

/-- Settles O42: in either view running an instruction extends the trace and leaves the port alone. -/
theorem stepsOnlyExtendTheTrace : Obligations.StepsOnlyExtendTheTrace := fun _ _ hr h =>
  h.elim (stepWith_trace_script (fun _ _ _ => exec_sameInputs) (fun _ _ _ => exec_trace_prefix) hr)
    (stepWith_trace_script (fun _ _ _ => acceptMicro_sameInputs) (fun _ _ _ h => by rw [acceptMicro_trace h]) hr)

end Sys2Proof.Machine

/-! ## The family of 30_encoding.md: the words of the three layers, and how a step reads them -/

namespace Sys2Proof

/-! ### Host requests -/

/-- OP 0xD to 0xF name no operation, whatever the fields hold (30_encoding.md R73). -/
theorem hostInstr_reserved {op : BitVec 4} (a b : Byte) (h : 0xD#4 ≤ op) : hostInstr op a b = .error .reservedOp := by
  have hop : ∀ o : BitVec 4, 0xD#4 ≤ o → o = 0xD ∨ o = 0xE ∨ o = 0xF := by decide
  obtain rfl | rfl | rfl := hop op h <;> rfl

/-! ### Command bytes -/

section

variable {b : Byte}

/-! The masks of the opcode table select the ranges of 30_encoding.md R65. -/

theorem entryMode_mask_iff : b &&& 0xFC = 0x04 ↔ 0x04#8 ≤ b ∧ b ≤ 0x07#8 := by revert b; decide
theorem displayControl_mask_iff : b &&& 0xF8 = 0x08 ↔ 0x08#8 ≤ b ∧ b ≤ 0x0F#8 := by revert b; decide
theorem functionSet_mask_iff : b &&& 0xFC = 0x38 ↔ 0x38#8 ≤ b ∧ b ≤ 0x3B#8 := by revert b; decide
theorem setDdram_mask_iff : b &&& 0x80 = 0x80 ↔ 0x80#8 ≤ b := by revert b; decide

/-! A byte of a family is assembled again from the operands the decoder takes out of it (30_encoding.md R66). -/

theorem entryModeByte_operands (h : b &&& 0xFC = 0x04) :
    Machine.entryModeByte (Machine.entryFlags (b.getLsbD 1) (b.getLsbD 0)) = b := by revert b; decide
theorem pack_unpack (h : b &&& 0xF8 = 0x08) : Machine.pack (Machine.unpack b) = b := by revert b; decide
theorem functionSetByte_operand (h : b &&& 0xFC = 0x38) :
    Machine.functionSetByte ((b.extractLsb' 0 2).setWidth 8) = b := by revert b; decide
theorem setDdramByte_operand (h : b &&& 0x80 = 0x80) :
    Machine.setDdramByte ((b.extractLsb' 0 7).setWidth 8) = b := by revert b; decide

/-- A chain of tests answers an instruction when its first test passes or the rest of the chain does. -/
theorem exists_ite_ok {p : Prop} [Decidable p] {i : Instr} {rest : Except DecodeError Instr} :
    (∃ j, (if p then .ok i else rest) = .ok j) ↔ p ∨ ∃ j, rest = .ok j := by
  by_cases hp : p <;> simp [hp]

/-- A command byte names an instruction exactly when it lies in one of the six legal ranges (30_encoding.md R65). -/
theorem decode_command_ok_iff :
    (∃ i, decode (.command b) = .ok i) ↔
      b = 0x01#8 ∨ b = 0x02#8 ∨ (0x04#8 ≤ b ∧ b ≤ 0x07#8) ∨ (0x08#8 ≤ b ∧ b ≤ 0x0F#8) ∨ (0x38#8 ≤ b ∧ b ≤ 0x3B#8) ∨
        0x80#8 ≤ b := by
  simp only [decode, decodeCommand, exists_ite_ok, entryMode_mask_iff, displayControl_mask_iff, functionSet_mask_iff,
    setDdram_mask_iff, reduceCtorEq, exists_false, or_false]
  rfl

/-- There is one way for a command byte to name nothing (30_encoding.md R68). -/
theorem decode_command_error (h : ¬ ∃ i, decode (.command b) = .ok i) :
    decode (.command b) = .error .unassignedCommandByte := by
  cases hd : decode (.command b) with
  | ok i => exact absurd ⟨i, hd⟩ h
  | error e =>
    simp only [decode, decodeCommand] at hd
    split_ifs at hd
    exact hd.symm

/-- A command byte that names an instruction is that instruction's encoding: the operands are the bits its mask leaves. -/
theorem encode_of_decode_command {i : Instr} (h : decode (.command b) = .ok i) : encode i = .command b := by
  simp only [decode, decodeCommand] at h
  split_ifs at h with hclear hhome hentry hcontrol hfunction hddram <;> cases h
  · exact congrArg _ hclear.symm
  · exact congrArg _ hhome.symm
  · exact congrArg _ (entryModeByte_operands hentry)
  · exact congrArg _ (pack_unpack hcontrol)
  · exact congrArg _ (functionSetByte_operand hfunction)
  · exact congrArg _ (setDdramByte_operand hddram)

end

/-! ### Frames -/

/-- A bit of a 10-bit word is a bit of its low byte or of its two high bits. -/
theorem getLsbD_frame (p : BitVec 2) (v : Byte) (k : Nat) :
    (p ++ v : BitVec 10).getLsbD k = if k < 8 then v.getLsbD k else p.getLsbD (k - 8) :=
  BitVec.getLsbD_append

/-- The levels of a 10-bit word, position 0 as bit 9, are its two high bits and then its low byte (30_encoding.md R62). -/
theorem frame_levels (p : BitVec 2) (v : Byte) :
    (List.range 10).map (fun k => (p ++ v).getLsbD (9 - k)) = p.getLsbD 1 :: p.getLsbD 0 :: Machine.msbFirst v := by
  simp only [getLsbD_frame]
  rfl

/-- `encodeFrame(v, DATA) = 0x200 | v` is the word `1,0,v` (30_encoding.md R61, R62). -/
theorem dataFrame_eq_append (v : Byte) : 0x200#10 ||| v.setWidth 10 = 2#2 ++ v := by
  revert v; decide

/-- `encodeFrame(v, COMMAND) = v` is the word `0,0,v` (30_encoding.md R61, R62). -/
theorem commandFrame_eq_append (v : Byte) : v.setWidth 10 = 0#2 ++ v := by
  revert v; decide

/-- A frame is its mode bit, its second preamble bit and its byte (30_encoding.md R61). -/
theorem frame_eq_append (f : BitVec 10) :
    f = (BitVec.ofBool (f.getLsbD 9) ++ BitVec.ofBool (f.getLsbD 8) : BitVec 2) ++ f.extractLsb' 0 8 := by
  have hbits : ∀ x y : Bool, (BitVec.ofBool x ++ BitVec.ofBool y : BitVec 2).getLsbD 0 = y ∧
      (BitVec.ofBool x ++ BitVec.ofBool y : BitVec 2).getLsbD 1 = x := by decide
  refine BitVec.eq_of_getLsbD_eq fun k hk => ?_
  rw [getLsbD_frame]
  obtain h | rfl | rfl : k < 8 ∨ k = 8 ∨ k = 9 := by omega
  · simp [h]
  · exact (hbits _ _).1.symm
  · exact (hbits _ _).2.symm

/-- A frame with a high second preamble bit names nothing (30_encoding.md R68). -/
theorem decode_frame_reserved {f : BitVec 10} (h : f.getLsbD 8 = true) :
    decode (.frame f) = .error .reservedPreamble := by
  simp only [decode, decodeFrame, h, if_true]

/-- A frame with a low second preamble bit is a data or a command frame by its mode bit (30_encoding.md R61). -/
theorem decode_frame_low {f : BitVec 10} (h : f.getLsbD 8 = false) :
    decode (.frame f) =
      .ok (if f.getLsbD 9 then .frameData (f.extractLsb' 0 8) else .frameCommand (f.extractLsb' 0 8)) := by
  simp only [decode, decodeFrame, h, Bool.false_eq_true, if_false]
  exact (apply_ite ..).symm

/-- A frame names an instruction exactly when its second preamble bit is low (30_encoding.md R61). -/
theorem decode_frame_ok_iff {f : BitVec 10} : (∃ i, decode (.frame f) = .ok i) ↔ f.getLsbD 8 = false := by
  cases h : f.getLsbD 8 with
  | true => simp [decode_frame_reserved h]
  | false => simp [decode_frame_low h]

/-- A frame that names an instruction is that instruction's encoding. -/
theorem encode_of_decode_frame {f : BitVec 10} {i : Instr} (h : decode (.frame f) = .ok i) : encode i = .frame f := by
  have h8 : f.getLsbD 8 = false := decode_frame_ok_iff.mp ⟨i, h⟩
  have hf := frame_eq_append f
  rw [decode_frame_low h8] at h
  cases h
  cases h9 : f.getLsbD 9 with
  | true => rw [h8, h9] at hf; exact congrArg _ hf.symm
  | false => rw [h8, h9] at hf; exact congrArg _ hf.symm

end Sys2Proof

namespace Sys2Proof.Machine

/-! ### A step on a word that names nothing -/

/-- Out of reset an idle block refuses a word that names no instruction, whatever else holds (30_encoding.md R68, R73). -/
theorem stepWith_undecodable {run : Instr → State → Result} {s : State} {r : Request} {rest : List Request}
    {e : DecodeError} (hr : s.rst = false) (hs : s.seq = .idle) (hl : s.script = r :: rest) (hd : decode r = .error e) :
    stepWith run s = .refused (decodeRefusal e) := by
  simp only [stepWith, hr, hs, hl, hd]

/-! ### The statements -/

/-- Settles O6: the round trip of each constructor. -/
theorem decodeOfEncodeIsTheInstruction : Obligations.DecodeOfEncodeIsTheInstruction := decode_encode

/-- Settles O7: layer by layer. -/
theorem linkWordsHaveOneMeaning : Obligations.LinkWordsHaveOneMeaning := by
  intro r i hr h
  cases r with
  | host w => cases hr
  | command b => exact encode_of_decode_command h
  | frame f => exact encode_of_decode_frame h

/-- Settles O8: each word is read as its three fields. -/
theorem hostRequestTable : Obligations.HostRequestTable := fun a b =>
  ⟨decode_hostWord 0x0 a b, decode_hostWord 0x1 a b, decode_hostWord 0x2 a b, decode_hostWord 0x3 a b,
    decode_hostWord 0x4 a b, decode_hostWord 0x5 a b, decode_hostWord 0x6 a b, decode_hostWord 0x7 a b,
    decode_hostWord 0x8 a b, decode_hostWord 0x9 a b, decode_hostWord 0xA a b, decode_hostWord 0xB a b,
    decode_hostWord 0xC a b⟩

/-- Settles O10: the masks are the legal ranges, and a word outside them is refused by the step that meets it. -/
theorem linkWordsOutsideTheTablesAreRefused : Obligations.LinkWordsOutsideTheTablesAreRefused :=
  ⟨fun _ => decode_command_ok_iff, fun _ => decode_frame_ok_iff,
    fun _ _ _ hr hs hl h => stepWith_undecodable hr hs hl (decode_command_error h),
    fun _ _ _ hr hs hl h => stepWith_undecodable hr hs hl (decode_frame_reserved h)⟩

/-- Settles O11: both numbers are the words the encoder writes, so the round trip reads them back. -/
theorem frameIsPreambleThenByte : Obligations.FrameIsPreambleThenByte := by
  refine ⟨fun _ => rfl, fun _ => rfl, fun v => ?_, fun v => ?_, fun v m => readFrame_frameOf (m, v)⟩
  · rw [dataFrame_eq_append]
    exact ⟨decode_encode (.frameData v), frame_levels 2#2 v⟩
  · rw [commandFrame_eq_append]
    exact ⟨decode_encode (.frameCommand v), frame_levels 0#2 v⟩

/-- Settles O29: exec and the micro-step view are both acceptance first, and a busy block accepts nothing. -/
theorem requestsWaitWhileBusy : Obligations.RequestsWaitWhileBusy := fun s i hs =>
  ⟨(exec_eq i s).trans (State.accepted_busy hs), State.accepted_busy hs⟩

/-- Settles O34. -/
theorem receiverRecoversTheFrame : Obligations.ReceiverRecoversTheFrame := Receiver.run_sendTrace

/-- Settles O5: the host words by their fields, the others by evaluation. -/
theorem decodeReadsWrittenOutWords : Obligations.DecodeReadsWrittenOutWords :=
  ⟨decode_hostWord 0x0 0 0, decode_hostWord 0x3 0 0, decode_hostWord 0x9 5 2, decode_hostWord 0xA 0x02 0,
    decode_hostWord 0xC 0x41 0xFF, rfl, rfl, rfl, rfl, rfl⟩

/-- Settles O9: the word is read before anything else is looked at. -/
theorem reservedOpIsRefused : Obligations.ReservedOpIsRefused := fun _ a b op _ hr hs hl hop =>
  stepWith_undecodable hr hs hl ((decode_hostWord op a b).trans (hostInstr_reserved a b hop))

/-- Settles O12: taking a host request off the port samples its fields, taking a word of an inner layer samples none. -/
theorem stepRunsDecodedInstruction : Obligations.StepRunsDecodedInstruction := by
  refine fun s rest i hr hs => ⟨fun w hl hd => stepWith_request hr hs hl hd, fun r hl hhost hd => ?_⟩
  have hstep : step s = exec i (s.take r rest) := stepWith_request hr hs hl hd
  cases r with
  | host w => cases hhost
  | command b => exact hstep
  | frame f => exact hstep

end Sys2Proof.Machine

/-! ## The family of 40_link_transmitter.md: the events of a clock cycle, a byte and a preamble, and their waveform -/

namespace Sys2Proof.Machine

/-! ### The least time of a trace, event by event -/

@[simp] theorem minTime_nil : minTime [] = 0 := rfl

@[simp] theorem minTime_drive (p : Pin) (l : Level) (t : List Event) : minTime (.drive p l :: t) = minTime t := by
  simp [minTime]

@[simp] theorem minTime_wait (n : Nat) (t : List Event) : minTime (.wait n :: t) = n + minTime t := by
  simp [minTime]

@[simp] theorem minTime_append (t u : List Event) : minTime (t ++ u) = minTime t + minTime u := by
  simp [minTime]

/-! ### A clock cycle -/

theorem length_clockBit (cfg : Config) (b : Level) : (clockBit cfg b).length = if cfg.settlePerCycle then 7 else 6 := by
  cases h : cfg.settlePerCycle <;> simp [clockBit, h]

theorem minTime_clockBit (cfg : Config) (b : Level) :
    minTime (clockBit cfg b) = if cfg.settlePerCycle then 102 else 2 := by
  cases h : cfg.settlePerCycle <;> simp [clockBit, h, tLow, tHigh, tSettle]

/-- A clock cycle leaves the clock low and the data at its bit, and does not touch chip-select (R90). -/
theorem clockBit_lvl (cfg : Config) (b : Level) (lvl : PerPin (Option Level)) :
    (clockBit cfg b).foldl Event.onLvl lvl = { lvl with clk := some false, dat := some b } := by
  cases h : cfg.settlePerCycle <;> simp [clockBit, h, Event.onLvl, PerPin.put]

/-! ### A byte -/

/-- The settle of a byte, which stands at its end when its cycles have none (R91), moves no pin. -/
theorem shiftByte_lvl (cfg : Config) (v : Byte) (lvl : PerPin (Option Level)) :
    (shiftByte cfg v).foldl Event.onLvl lvl = { lvl with clk := some false, dat := some (v.getLsbD 0) } := by
  have hsettle (x : PerPin (Option Level)) :
      (if cfg.settlePerCycle then [] else [.wait tSettle]).foldl Event.onLvl x = x := by
    split <;> rfl
  simp only [shiftByte, msbFirst, List.flatMap_cons, List.flatMap_nil, List.foldl_append, List.foldl_nil, hsettle,
    clockBit_lvl]

theorem length_shiftByte (cfg : Config) (v : Byte) :
    (shiftByte cfg v).length = if cfg.settlePerCycle then 56 else 49 := by
  cases h : cfg.settlePerCycle <;> simp [shiftByte, msbFirst, length_clockBit, h]

theorem minTime_shiftByte (cfg : Config) (v : Byte) :
    minTime (shiftByte cfg v) = if cfg.settlePerCycle then 816 else 116 := by
  cases h : cfg.settlePerCycle <;> simp [shiftByte, msbFirst, minTime_clockBit, h, tSettle]

/-! ### A preamble -/

theorem modeBit_eq_decide (m : TxMode) : modeBit m = decide (m = .data) := by
  cases m <;> rfl

theorem preamble_lvl (cfg : Config) (m : TxMode) (lvl : PerPin (Option Level)) :
    (preamble cfg m).foldl Event.onLvl lvl = { lvl with clk := some false, dat := some false } := by
  simp only [preamble, List.foldl_append, clockBit_lvl]

theorem minTime_preamble (cfg : Config) (m : TxMode) :
    minTime (preamble cfg m) = if cfg.settlePerCycle then 204 else 4 := by
  cases h : cfg.settlePerCycle <;> simp [preamble, minTime_clockBit, h]

/-- Settles O31: the events are the definitions written out; levels and times add up cycle by cycle. -/
theorem linkPrimitivesEmitTheirEvents : Obligations.LinkPrimitivesEmitTheirEvents := by
  refine ⟨fun cfg b lvl => ⟨rfl, clockBit_lvl cfg b lvl, minTime_clockBit cfg b⟩,
    fun cfg v lvl => ⟨?_, shiftByte_lvl cfg v lvl, ?_⟩,
    fun cfg m lvl => ⟨?_, preamble_lvl cfg m lvl, minTime_preamble cfg m⟩⟩
  · simp only [shiftByte, msbFirst, List.flatMap_cons, List.flatMap_nil, List.append_nil, List.append_assoc, tSettle]
  · rw [length_shiftByte, minTime_shiftByte]
    split <;> rfl
  · rw [preamble, modeBit_eq_decide]

/-! ### The waveform -/

/-- Driving the level a pin already has changes nothing. -/
theorem PerPin.put_of_get_eq {α : Type} {x : PerPin α} {p : Pin} {a : α} (h : x.get p = a) : x.put p a = x := by
  subst h
  cases p <;> rfl

/-- A drive is seen in the waveform when it moves its pin (decision D17). -/
theorem waveformFrom_drive (lvl : PerPin (Option Level)) (p : Pin) (l : Level) (t : List Event) :
    waveformFrom lvl (.drive p l :: t) =
      (if lvl.get p = some l then [] else [.drive p l]) ++ waveformFrom (lvl.put p (some l)) t := by
  by_cases h : lvl.get p = some l
  · simp [waveformFrom, h, PerPin.put_of_get_eq h]
  · simp [waveformFrom, h]

theorem waveformFrom_wait (lvl : PerPin (Option Level)) (n : Nat) (t : List Event) :
    waveformFrom lvl (.wait n :: t) = .wait n :: waveformFrom lvl t := rfl

/-- The waveform of a clock cycle from any levels: the opening drives are seen when they move their pin, the pulse always
(R90). -/
theorem waveformFrom_clockBit (cfg : Config) (b : Level) (lvl : PerPin (Option Level)) :
    waveformFrom lvl (clockBit cfg b) =
      (if lvl.get .dat = some b then [] else [.drive .dat b]) ++
        (if lvl.get .clk = some false then [] else [.drive .clk false]) ++
        [.wait 1, .drive .clk true, .wait 1, .drive .clk false] ++ if cfg.settlePerCycle then [.wait 100] else [] := by
  have hsettle (x : PerPin (Option Level)) :
      waveformFrom x (if cfg.settlePerCycle then [.wait tSettle] else []) =
        if cfg.settlePerCycle then [.wait 100] else [] := by
    split <;> rfl
  simp [clockBit, waveformFrom_drive, waveformFrom_wait, hsettle, PerPin.get_put, tLow, tHigh]

/-- Settles O38: whether the opening clock-low is seen is all that the two cases differ in. -/
theorem clockCycleWaveform : Obligations.ClockCycleWaveform := by
  intro cfg b lvl
  have hdat : lvl.get .dat = lvl.dat := rfl
  refine ⟨fun h => ?_, fun h => ?_⟩
  · have hclk : lvl.get .clk = some false := h
    rw [waveformFrom_clockBit, hdat, hclk]
    simp
  · have hclk : lvl.get .clk = some true := h
    rw [waveformFrom_clockBit, hdat, hclk]
    simp

end Sys2Proof.Machine

/-! ## The family of 41_frame_encoder.md: a transaction, its frame, and the instructions that send it -/

namespace Sys2Proof.Machine

/-! ### The events of a transaction -/

theorem length_preamble (cfg : Config) (m : TxMode) :
    (preamble cfg m).length = if cfg.settlePerCycle then 14 else 12 := by
  cases h : cfg.settlePerCycle <;> simp [preamble, length_clockBit, h]

theorem length_sendTrace (cfg : Config) (v : Byte) (m : TxMode) :
    (sendTrace cfg v m).length = if cfg.settlePerCycle then 72 else 63 := by
  cases h : cfg.settlePerCycle <;> simp [sendTrace, length_preamble, length_shiftByte, h]

theorem minTime_sendTrace (cfg : Config) (v : Byte) (m : TxMode) :
    minTime (sendTrace cfg v m) = if cfg.settlePerCycle then 1020 else 120 := by
  cases h : cfg.settlePerCycle <;> simp [sendTrace, minTime_preamble, minTime_shiftByte, h]

/-- Settles O32: the state after `send` is known, and the counts add up over its parts. -/
theorem sendIsOneTransaction : Obligations.SendIsOneTransaction := by
  refine fun s v m => ⟨?_, ?_⟩
  · rw [State.send_eq]
    simp only [sendTrace, List.append_assoc]
  · rw [length_sendTrace, minTime_sendTrace]
    split <;> rfl

/-! ### Chip-select and the clock within a transaction -/

/-- A clock cycle does not drive chip-select (40_link_transmitter.md R90). -/
theorem driveSel_notMem_clockBit (cfg : Config) (b l : Level) : Event.drive .sel l ∉ clockBit cfg b := by
  cases h : cfg.settlePerCycle <;> simp [clockBit, h]

theorem driveSel_notMem_preamble (cfg : Config) (m : TxMode) (l : Level) : Event.drive .sel l ∉ preamble cfg m := by
  simp [preamble, driveSel_notMem_clockBit]

/-- Neither the cycles of a byte nor the settle at its end drive chip-select (40_link_transmitter.md R91). -/
theorem driveSel_notMem_shiftByte (cfg : Config) (v : Byte) (l : Level) : Event.drive .sel l ∉ shiftByte cfg v := by
  cases h : cfg.settlePerCycle <;> simp [shiftByte, h, driveSel_notMem_clockBit]

/-- A clock cycle raises the clock once (40_link_transmitter.md R90). -/
theorem count_clockRise_clockBit (cfg : Config) (b : Level) : (clockBit cfg b).count (.drive .clk true) = 1 := by
  cases h : cfg.settlePerCycle <;> simp [clockBit, h]

theorem count_clockRise_preamble (cfg : Config) (m : TxMode) : (preamble cfg m).count (.drive .clk true) = 2 := by
  simp [preamble, count_clockRise_clockBit]

theorem count_clockRise_shiftByte (cfg : Config) (v : Byte) : (shiftByte cfg v).count (.drive .clk true) = 8 := by
  cases h : cfg.settlePerCycle <;> simp [shiftByte, msbFirst, count_clockRise_clockBit, h]

/-- Settles O33: between the two drives of chip-select stand the preamble and the byte. -/
theorem selectBracketsTenClockPulses : Obligations.SelectBracketsTenClockPulses := by
  refine fun cfg v m => ⟨preamble cfg m ++ shiftByte cfg v, ?_, fun l => ?_, ?_⟩
  · simp [sendTrace]
  · simp [driveSel_notMem_preamble, driveSel_notMem_shiftByte]
  · rw [List.count_append, count_clockRise_preamble, count_clockRise_shiftByte]

/-! ### Command bytes and frames at the frame encoder -/

/-- Idle with distinct pins, the frame encoder runs one transaction, whatever else the state holds (60_exceptions.md R164). -/
theorem State.linkSend_run {s : State} {v : Byte} {b : Level} (m : TxMode) (hs : s.seq = .idle)
    (hp : s.cfg.pinsDistinct = true) (hb : v.getLsbD 0 = b) :
    s.linkSend v m = .next { s with
      lvl := { sel := some true, clk := some false, dat := some b }
      trace := s.trace ++ sendTrace s.cfg v m } := by
  rw [State.linkSend, State.accepted_run hs (State.gateLink_none.mpr hp), State.send_eq, hb]

/-- Settles O27. -/
theorem framesResult : Obligations.FramesResult := fun _ _ hs hp =>
  ⟨State.linkSend_run .command hs hp rfl, State.linkSend_run .data hs hp rfl⟩

/-- The entry-mode byte is its base opcode and one bit for each field (30_encoding.md R65, R66(b)). -/
theorem entryModeByte_entryFlags (increment shiftRight : Bool) :
    entryModeByte (entryFlags increment shiftRight) =
      0x04#8 ||| (if increment then 0x02#8 else 0#8) ||| (if shiftRight then 0x01#8 else 0#8) :=
  (BitVec.or_assoc ..).symm

/-! The last bit of a command byte is that of its operand (30_encoding.md R66, 10_state.md R22). -/

theorem entryModeByte_entryFlags_bit0 (increment shiftRight : Bool) :
    (entryModeByte (entryFlags increment shiftRight)).getLsbD 0 = shiftRight := by
  revert increment shiftRight; decide

theorem pack_bit0 (r : Dcr) : (pack r).getLsbD 0 = r.b := by
  obtain ⟨d, c, b⟩ := r
  revert d c b; decide

theorem functionSetByte_bit0 (flags : Byte) : (functionSetByte flags).getLsbD 0 = flags.getLsbD 0 := by
  simp [functionSetByte, opcFuncset]

theorem setDdramByte_bit0 (address : Byte) : (setDdramByte address).getLsbD 0 = address.getLsbD 0 := by
  simp [setDdramByte, opcSetddram]

/-- Settles O26: each family is one transaction of its byte. -/
theorem commandBytesResult : Obligations.CommandBytesResult := by
  refine fun s hs hp => ⟨State.linkSend_run .command hs hp rfl, State.linkSend_run .command hs hp rfl,
    fun increment shiftRight => ?_, fun d c b => State.linkSend_run .command hs hp (pack_bit0 ⟨d, c, b⟩),
    fun table => State.linkSend_run .command hs hp ?_, fun address => State.linkSend_run .command hs hp ?_⟩
  · rw [← entryModeByte_entryFlags]
    exact State.linkSend_run .command hs hp (entryModeByte_entryFlags_bit0 ..)
  · exact (functionSetByte_bit0 _).trans (by simp)
  · exact (setDdramByte_bit0 _).trans (by simp)

/-! ### The frames an instruction sends -/

theorem carries_nil : Carries [] [] := ⟨fun _ hr => hr, fun _ _ => (List.append_nil _).symm⟩

/-- The trace of an instruction is whole frames: five for SETUP and one for any other, in DATA mode for WRITE and the data
frame only (41_frame_encoder.md R102). -/
theorem opening_carries {i : Instr} {s s1 : State} {events : List Event} (h : opening i s = .ok (s1, events)) :
    ∃ sent, Carries events sent ∧ sent.length = (if i = .setup then 5 else 1) ∧
      ∀ x ∈ sent, (x.1 = .data ↔ (∃ ch, i = .write ch) ∨ ∃ v, i = .frameData v) := by
  by_cases hi : i = .setup
  · subst hi
    simp only [opening, Except.ok.injEq, Prod.mk.injEq] at h
    obtain ⟨rfl, rfl⟩ := h
    exact ⟨_, carries_setupTrace .., rfl, by simp⟩
  · obtain ⟨v, m, tail, rfl, htail, hmode⟩ := opening_shape hi h
    have hnone : Carries tail [] := by
      obtain rfl | ⟨n, rfl⟩ := htail
      · exact carries_nil
      · exact carries_wait n
    exact ⟨[(m, v)], (carries_sendTrace ..).append hnone, by simp [hi], by simpa using hmode⟩

/-- Settles O35: an idle block that answers a next state has emitted the trace of the opening. -/
theorem framesPerInstructionAndTheirMode : Obligations.FramesPerInstructionAndTheirMode := by
  refine ⟨fun _ _ => rfl, fun s t i r hs h hr => ?_⟩
  obtain ⟨hb, -⟩ | ⟨-, -, s1, events, ho, rfl⟩ := exec_next h
  · exact absurd hs hb
  · obtain ⟨sent, hc, hlen, hmode⟩ := opening_carries ho
    refine ⟨events, sent, ?_, hc.frame r hr, hc.frames r hr, hlen, hmode⟩
    rw [State.concluded_eq, ← opening_trace ho]
    rfl

end Sys2Proof.Machine

/-! ## The family of 42_display_register_state.md: the toggles, and the flags that are passed through -/

namespace Sys2Proof.Machine

/-! ### A host operation before and in Ready -/

/-- Every host operation but SETUP meets V1 before Ready (60_exceptions.md R163). -/
theorem refusedBeforeReady {i : Instr} (hh : i.isHostOp = true) (hi : i ≠ .setup) : RefusedBeforeReady i := by
  intro s hs hp hinit
  rw [exec_refused_iff hs, State.gate_host hh hi]
  simp [State.gateReady, hp, hinit]

/-- In Ready no host operation but SETUP meets a violation that refuses. -/
theorem State.acceptsOps.gate {s : State} {i : Instr} (h : s.acceptsOps) (hh : i.isHostOp = true) (hi : i ≠ .setup) :
    s.gate i = none :=
  (State.gate_host hh hi).trans (State.gateReady_none.mpr h.2)

/-- A host operation leaves a block that accepts operations ready for the next one. -/
theorem State.acceptsOps.of_exec {s t : State} {i : Instr} (h : s.acceptsOps) (hh : i.isHostOp = true)
    (hx : exec i s = .next t) : t.acceptsOps := by
  obtain ⟨hs, hp, -⟩ := h
  refine ⟨(exec_seq hx).trans hs, ?_, init_of_exec hs hh hx⟩
  rw [(exec_sameInputs hx).cfg, hp]

/-- In Ready an operation whose trace is one command and its settle delay adds that trace to its register update, leaves
the pins at (1, 0, last bit) and delivers its response (42_display_register_state.md R110). -/
theorem exec_settledCommand {i : Instr} {s s1 : State} {v : Byte} {n : Nat} (h : s.acceptsOps) (hh : i.isHostOp = true)
    (hi : i ≠ .setup) (ho : opening i s = .ok (s1, settledCommand s.cfg v n)) :
    exec i s = .next { s1 with
      lvl := { sel := some true, clk := some false, dat := some (v.getLsbD 0) }
      trace := s.trace ++ sendTrace s.cfg v .command ++ [.wait n]
      respValid := true, respCount := returnValue i } := by
  obtain ⟨hoe, -⟩ := opening_oe hi ho
  rw [exec_run h.1 (h.gate hh hi) ho, State.concluded_eq]
  simp only [hi, hh, if_true, if_false, State.emit, hoe, settledCommand_lvl, opening_trace ho]
  simp [settledCommand]

/-! ### The toggles -/

/-- The opening of a toggle is `toggle(flag, v)` of 42_display_register_state.md R111. -/
theorem opening_toggle {i : Instr} {flag : DcrFlag} {v : Bool} (ht : toggleOf i = some (flag, v)) (s : State) :
    opening i s = .ok (s.openToggle flag v) := by
  cases i with
  | displayOn | displayOff | cursorOn | cursorOff | blinkOn | blinkOff => cases ht; rfl
  | _ => cases ht

/-- A toggle is a host operation, is not SETUP and returns nothing (30_encoding.md R74). -/
theorem isHostOp_of_toggle {i : Instr} {x : DcrFlag × Bool} (ht : toggleOf i = some x) :
    i.isHostOp = true ∧ i ≠ .setup ∧ returnValue i = none := by
  cases i with
  | displayOn | displayOff | cursorOn | cursorOff | blinkOn | blinkOff => simp [Instr.isHostOp, returnValue]
  | _ => cases ht

/-- A toggle in Ready, in full: one flag is written and the whole register is sent. -/
theorem exec_toggle {i : Instr} {flag : DcrFlag} {v : Bool} {byte : Byte} {s : State}
    (ht : toggleOf i = some (flag, v)) (h : s.acceptsOps) (hbyte : pack (s.dcr.set flag v) = byte) :
    exec i s = .next { s with
      dcr := s.dcr.set flag v
      lvl := { sel := some true, clk := some false, dat := some (s.dcr.set flag v).b }
      trace := s.trace ++ sendTrace s.cfg byte .command ++ [.wait 500]
      respValid := true, respCount := none } := by
  obtain ⟨hh, hi, hret⟩ := isHostOp_of_toggle ht
  rw [exec_settledCommand h hh hi (opening_toggle ht s), pack_bit0, hbyte, hret]
  rfl

/-! The byte a toggle sends, with the written flag's bit in the constant (10_state.md R22). -/

theorem pack_set_d (r : Dcr) (v : Bool) :
    pack (r.set .d v) =
      (if v then 0x0C#8 else 0x08#8) ||| (if r.c then 0x02#8 else 0#8) ||| (if r.b then 0x01#8 else 0#8) := by
  obtain ⟨d, c, b⟩ := r
  revert d c b v; decide

theorem pack_set_c (r : Dcr) (v : Bool) :
    pack (r.set .c v) =
      (if v then 0x0A#8 else 0x08#8) ||| (if r.d then 0x04#8 else 0#8) ||| (if r.b then 0x01#8 else 0#8) := by
  obtain ⟨d, c, b⟩ := r
  revert d c b v; decide

theorem pack_set_b (r : Dcr) (v : Bool) :
    pack (r.set .b v) =
      (if v then 0x09#8 else 0x08#8) ||| (if r.d then 0x04#8 else 0#8) ||| (if r.c then 0x02#8 else 0#8) := by
  obtain ⟨d, c, b⟩ := r
  revert d c b v; decide

/-- Settles O17: `toggle(D, v)` of R111. -/
theorem displayTogglesResult : Obligations.DisplayTogglesResult :=
  ⟨fun s h => ⟨exec_toggle rfl h (pack_set_d s.dcr true), exec_toggle rfl h (pack_set_d s.dcr false)⟩,
    refusedBeforeReady rfl nofun, refusedBeforeReady rfl nofun⟩

/-- Settles O18: `toggle(C, v)` of R111. -/
theorem cursorTogglesResult : Obligations.CursorTogglesResult :=
  ⟨fun s h => ⟨exec_toggle rfl h (pack_set_c s.dcr true), exec_toggle rfl h (pack_set_c s.dcr false)⟩,
    refusedBeforeReady rfl nofun, refusedBeforeReady rfl nofun⟩

/-- Settles O19: `toggle(B, v)` of R111; B is the last bit of the byte, so the data pin keeps it. -/
theorem blinkTogglesResult : Obligations.BlinkTogglesResult :=
  ⟨fun s h => ⟨exec_toggle rfl h (pack_set_b s.dcr true), exec_toggle rfl h (pack_set_b s.dcr false)⟩,
    refusedBeforeReady rfl nofun, refusedBeforeReady rfl nofun⟩

/-! ### The flags that are passed through -/

theorem entryModeByte_bit0 (flags : Byte) : (entryModeByte flags).getLsbD 0 = flags.getLsbD 0 := by
  simp [entryModeByte, opcEntry]

/-- Settles O20: the opening records V4 and sends `entryModeByte`. -/
theorem setEntryModeResult : Obligations.SetEntryModeResult := by
  refine ⟨fun s flags h => ?_, fun flags => refusedBeforeReady rfl nofun⟩
  rw [exec_settledCommand (i := .setEntryMode flags) h rfl nofun rfl, entryModeByte_bit0]
  rfl

/-- Settles O21: the opening records V4 and sends `functionSetByte`. -/
theorem setFunctionSetResult : Obligations.SetFunctionSetResult := by
  refine ⟨fun s flags h => ?_, fun flags => refusedBeforeReady rfl nofun⟩
  rw [exec_settledCommand (i := .setFunctionSet flags) h rfl nofun rfl, functionSetByte_bit0]
  rfl

/-! ### Sequences of register operations -/

/-- The value of one flag of `DCR`. -/
def Dcr.get (r : Dcr) : DcrFlag → Bool
  | .d => r.d
  | .c => r.c
  | .b => r.b

/-- Writing one flag leaves the other two (42_display_register_state.md R111). -/
theorem Dcr.get_set (r : Dcr) (flag flag' : DcrFlag) (v : Bool) :
    (r.set flag v).get flag' = if flag = flag' then v else r.get flag' := by
  cases flag <;> cases flag' <;> rfl

/-- The first operation of a sequence counts as the old value for the rest (R121(a), (b)). -/
theorem lastToggle_cons (flag : DcrFlag) (r : Dcr) (i : Instr) (ops : List Instr) :
    lastToggle flag (r.get flag) (i :: ops) = lastToggle flag ((dcrAfter r i).get flag) ops := by
  cases ht : toggleOf i with
  | none => simp [lastToggle, dcrAfter, ht]
  | some x =>
    obtain ⟨written, v⟩ := x
    by_cases hf : written = flag
    · simp only [lastToggle, dcrAfter, ht, List.filterMap_cons, hf, decide_true, List.filter_cons_of_pos,
        List.getLast?_cons, Dcr.get_set, if_true]
      cases ((ops.filterMap toggleOf).filter fun x => x.1 = flag).getLast? <;> rfl
    · simp [lastToggle, dcrAfter, ht, Dcr.get_set, hf]

theorem lastToggles_cons (r : Dcr) (i : Instr) (ops : List Instr) :
    ({ d := lastToggle .d r.d (i :: ops), c := lastToggle .c r.c (i :: ops), b := lastToggle .b r.b (i :: ops) } : Dcr) =
      { d := lastToggle .d (dcrAfter r i).d ops, c := lastToggle .c (dcrAfter r i).c ops
        b := lastToggle .b (dcrAfter r i).b ops } :=
  Dcr.mk.injEq .. |>.mpr ⟨lastToggle_cons .d r i ops, lastToggle_cons .c r i ops, lastToggle_cons .b r i ops⟩

/-- Which operations are register operations does not depend on `DCR`. -/
theorem registerByte_isSome (dcr dcr' : Dcr) (i : Instr) :
    (registerByte dcr i).isSome = (registerByte dcr' i).isSome := by
  cases i <;> rfl

/-- A register operation is a host operation other than SETUP that opens with one command, its byte that of `DCR` after it,
and the settle delay (R110). -/
theorem opening_registerOp {i : Instr} (s : State) (hi : (registerByte s.dcr i).isSome = true) :
    i.isHostOp = true ∧ i ≠ .setup ∧ ∃ s1 byte, registerByte (dcrAfter s.dcr i) i = some byte ∧
      opening i s = .ok (s1, settledCommand s.cfg byte tCmd) := by
  cases i with
  | displayOn | displayOff | cursorOn | cursorOff | blinkOn | blinkOff | setEntryMode | setFunctionSet =>
    exact ⟨rfl, nofun, _, _, rfl, rfl⟩
  | _ => cases hi

/-- One register operation in Ready: the block is ready for more, and R121 holds of that operation. -/
theorem exec_registerOp {i : Instr} {s : State} (h : s.acceptsOps) (hi : (registerByte s.dcr i).isSome = true) :
    ∃ t, exec i s = .next t ∧ t.acceptsOps ∧ t.cfg = s.cfg ∧ t.dcr = dcrAfter s.dcr i ∧
      t.trace = s.trace ++ registerTrace s.cfg s.dcr [i] := by
  obtain ⟨hh, hne, s1, byte, hbyte, ho⟩ := opening_registerOp s hi
  have hx := exec_settledCommand h hh hne ho
  have hdcr := opening_dcr ho
  refine ⟨_, hx, h.of_exec hh hx, (exec_sameInputs hx).cfg, hdcr, ?_⟩
  simp [registerTrace, hbyte, tCmd]

/-- The trace of a sequence is that of its first operation, then that of the rest from the `DCR` it leaves. -/
theorem registerTrace_cons (cfg : Config) (dcr : Dcr) (i : Instr) (ops : List Instr) :
    registerTrace cfg dcr (i :: ops) = registerTrace cfg dcr [i] ++ registerTrace cfg (dcrAfter dcr i) ops := by
  simp [registerTrace]

/-- Settles O43, by induction on the operations. -/
theorem registerSequencesFollowTheLastToggle : Obligations.RegisterSequencesFollowTheLastToggle := by
  intro ops
  induction ops with
  | nil => exact fun s h _ => ⟨s, rfl, h, rfl, (List.append_nil _).symm⟩
  | cons i ops ih =>
    intro s h hops
    obtain ⟨hi, hrest⟩ := List.forall_mem_cons.mp hops
    obtain ⟨s', hx, h', hcfg, hdcr, htrace⟩ := exec_registerOp h hi
    obtain ⟨t, hall, ht, htdcr, httrace⟩ :=
      ih s' h' fun j hj => (registerByte_isSome s'.dcr s.dcr j).trans (hrest j hj)
    refine ⟨t, ?_, ht, ?_, ?_⟩
    · rw [execAll, hx]
      exact hall
    · rw [htdcr, hdcr, lastToggles_cons]
    · rw [httrace, htrace, registerTrace_cons s.cfg s.dcr i ops, hcfg, hdcr, List.append_assoc]

end Sys2Proof.Machine

/-! ## The family of 43_cursor_address_mapper.md: SET_CURSOR -/

namespace Sys2Proof.Machine

/-- The offset of a row other than 4, by R130's clamp and the row-offset table: rows 5 to 255 share that of row 3. -/
def rowOffset (row : Byte) : Byte :=
  if row = 0#8 then 0x00#8 else if row = 1#8 then 0x40#8 else if row = 2#8 then 0x14#8 else 0x54#8

theorem read_rot_clampRow {row : Byte} (h : row ≠ 4) : Memory.read rot (clampRow row).toNat = some (rowOffset row) := by
  revert row; decide

theorem rowOffset_bit0 (row : Byte) : (rowOffset row).getLsbD 0 = false := by
  unfold rowOffset
  split_ifs <;> rfl

/-- The offsets of the table are even, so the last bit of the address is the column's. -/
theorem add_rowOffset_bit0 (col row : Byte) : (col + rowOffset row).getLsbD 0 = col.getLsbD 0 := by
  rw [BitVec.getLsbD_add (by decide), rowOffset_bit0, BitVec.carry_zero, Bool.xor_false, Bool.xor_false]

/-- SET_CURSOR in Ready, in full: one command whose address is the column plus the offset read, on top of what the read did,
and no settle delay (43_cursor_address_mapper.md R130, 70_reset_and_hazards.md R189). -/
theorem exec_setCursor {s s1 : State} {col row off : Byte} {b : Level} (h : s.acceptsOps)
    (hread : s.rotRead (clampRow row) = .ok (off, s1)) (hb : (col + off).getLsbD 0 = b) :
    exec (.setCursor col row) s = .next { s1 with
      lvl := { sel := some true, clk := some false, dat := some b }
      trace := s1.trace ++ sendTrace s1.cfg (0x80#8 ||| (col + off)) .command
      respValid := true, respCount := none } := by
  rw [exec, execSetCursor, State.accepted_run h.1 (State.gateReady_none.mpr h.2), hread]
  simp only [State.command, State.send_eq, setDdramByte_bit0, cursorAddress, hb]
  rfl

/-- Settles O22: a row other than 4 is read from the table, which changes nothing; row 4 is the draw. -/
theorem setCursorResult : Obligations.SetCursorResult := by
  refine ⟨fun s col row h => ⟨fun hrow => ?_, ?_⟩, fun col row => refusedBeforeReady rfl nofun⟩
  · exact exec_setCursor h (s.rotRead_table (read_rot_clampRow hrow)) (add_rowOffset_bit0 col row)
  · rintro rfl
    exact exec_setCursor (row := 4) h s.rotRead_four rfl

end Sys2Proof.Machine

/-! ## The family of 44_clear_home_setup.md: CLEAR, HOME and SETUP -/

namespace Sys2Proof.Machine

/-- Settles O23: each opens with one command and the slow settle delay. -/
theorem clearAndHomeResult : Obligations.ClearAndHomeResult :=
  ⟨fun _ h => ⟨exec_settledCommand (i := .clear) h rfl nofun rfl, exec_settledCommand (i := .home) h rfl nofun rfl⟩,
    refusedBeforeReady rfl nofun, refusedBeforeReady rfl nofun⟩

/-! ### SETUP -/

/-- A command and its settle delay touch no output enable (10_state.md R26). -/
theorem settledCommand_oe (cfg : Config) (v : Byte) (n : Nat) (oe : PerPin Bool) :
    (settledCommand cfg v n).foldl Event.onOe oe = oe := by
  rw [settledCommand, List.foldl_append, sendTrace_oe]
  rfl

/-- SETUP's step 1 makes every pin an output and no later step touches one (44_clear_home_setup.md R142). -/
theorem setupTrace_oe (cfg : Config) (dcr : Dcr) (oe : PerPin Bool) :
    (setupTrace cfg dcr).foldl Event.onOe oe = { sel := true, clk := true, dat := true } := by
  simp only [setupTrace, setupOpening, List.foldl_append, settledCommand_oe]
  rfl

/-- SETUP leaves the levels of its last frame, 0x06 (R142). -/
theorem setupTrace_lvl (cfg : Config) (dcr : Dcr) (lvl : PerPin (Option Level)) :
    (setupTrace cfg dcr).foldl Event.onLvl lvl = { sel := some true, clk := some false, dat := some false } := by
  rw [setupTrace, List.foldl_append, settledCommand_lvl]
  rfl

/-- SETUP where it is accepted, in full. -/
theorem exec_setup {s : State} (h : s.acceptsSetup) :
    exec .setup s = .next { s with
      dcr := { s.dcr with d := true }
      init := .ready
      oe := { sel := true, clk := true, dat := true }
      lvl := { sel := some true, clk := some false, dat := some false }
      trace := s.trace ++ setupTrace s.cfg (s.dcr.set .d true)
      respValid := true, respCount := none } := by
  obtain ⟨hs, hgate⟩ := h
  rw [exec_run (i := .setup) hs (State.gateSetup_none.mpr hgate) rfl, State.concluded_eq, State.emit, setupTrace_oe,
    setupTrace_lvl]
  rfl

/-- Settles O24: SETUP's trace with every byte and wait written out, display control with the flag D on; the refusals are
those of its checks. -/
theorem setupResult : Obligations.SetupResult := by
  refine ⟨fun s h => ?_, fun s hs hp hinit hre => ?_, fun s hs hp => ?_⟩
  · rw [exec_setup h, setupTrace, pack_set_d]
    simp only [setupOpening, settledCommand, List.append_assoc]
    rfl
  · rw [exec_refused_iff hs]
    simp [State.gate, State.gateSetup, hp, hinit, hre]
  · rw [exec_refused_iff hs]
    simp [State.gate, State.gateSetup, hp]

end Sys2Proof.Machine

/-! ## The family of 45_character_output.md: WRITE -/

namespace Sys2Proof.Machine

/-- Settles O25: past its checks WRITE is one DATA transaction, whose end state is known, and its completion. -/
theorem writeResult : Obligations.WriteResult := by
  refine ⟨fun s character h => ?_, fun character => refusedBeforeReady rfl nofun⟩
  obtain ⟨hidle, hready⟩ := h
  rw [exec, execWrite, State.accepted_run hidle (State.gateReady_none.mpr hready), State.send_eq, State.finish]

end Sys2Proof.Machine

/-! ## The family of 60_exceptions.md: the violations -/

namespace Sys2Proof.Machine

theorem Config.pinsDistinct_eq_false {c : Config} :
    c.pinsDistinct = false ↔ c.pinSel = c.pinClk ∨ c.pinSel = c.pinDat ∨ c.pinClk = c.pinDat := by
  simp only [Config.pinsDistinct, Bool.and_eq_false_iff, bne_eq_false_iff_eq, or_assoc]

/-- V8 is the first check of every instruction (60_exceptions.md R165). -/
theorem State.gate_pinsNotDistinct {s : State} (hp : s.cfg.pinsDistinct = false) (i : Instr) :
    s.gate i = some .pinsNotDistinct := by
  have hsetup : s.gateSetup = some .pinsNotDistinct := if_pos hp
  have hready : s.gateReady = some .pinsNotDistinct := if_pos hp
  have hlink : s.gateLink = some .pinsNotDistinct := if_pos hp
  rw [State.gate, hsetup, hready, hlink, ite_self, ite_self]

/-- Settles O28: an idle block refuses what its checks refuse, and V8 is the first of them. -/
theorem sharedPinsAreRefusedFirst : Obligations.SharedPinsAreRefusedFirst := fun _ i hs hpins =>
  (exec_refused_iff hs _).mpr (State.gate_pinsNotDistinct (Config.pinsDistinct_eq_false.mpr hpins) i)

/-- Flags are malformed when they are above 0x03 (60_exceptions.md R163, V4). -/
theorem malformedFlags_eq_true {flags : Byte} : malformedFlags flags = true ↔ 0x03#8 < flags := by
  simp [malformedFlags]

/-- Sending the events of an operation and concluding it records no violation. -/
theorem State.concluded_marks (s : State) (i : Instr) (events : List Event) :
    (s.concluded i events).marks = s.marks := by
  rw [State.concluded_eq]
  rfl

/-- Settles O30: on an idle block the opening alone records violations. -/
theorem marksAreSetByTheirConditionsAndKept : Obligations.MarksAreSetByTheirConditionsAndKept := by
  intro s t i hs h
  obtain ⟨hb, -⟩ | ⟨-, -, s1, events, ho, rfl⟩ := exec_next h
  · exact absurd hs hb
  · have hmarks := opening_marks ho
    simp only [malformedFlags_eq_true] at hmarks
    rw [State.concluded_marks]
    exact hmarks

end Sys2Proof.Machine

/-! ## The family of 70_reset_and_hazards.md: how long an operation takes, reset and waiting -/

namespace Sys2Proof.Machine

/-! ### The waits of a trace -/

theorem waitsOf_append (t u : List Event) : waitsOf (t ++ u) = waitsOf t ++ waitsOf u := List.filterMap_append

theorem waitsOf_wait (n : Nat) (t : List Event) : waitsOf (.wait n :: t) = n :: waitsOf t := rfl

theorem waitsOf_map_wait (ns : List Nat) : waitsOf (ns.map .wait) = ns := by
  simp [waitsOf, List.filterMap_map]

theorem minTime_map_wait (ns : List Nat) : minTime (ns.map .wait) = ns.sum := by
  simp [minTime, Function.comp_def]

/-- The waits of one frame, the same for every byte and mode (40_link_transmitter.md R90, R91). -/
def frameWaits (settlePerCycle : Bool) : List Nat :=
  if settlePerCycle then (List.replicate 10 [tLow, tHigh, tSettle]).flatten
  else (List.replicate 10 [tLow, tHigh]).flatten ++ [tSettle]

theorem waitsOf_sendTrace (cfg : Config) (v : Byte) (m : TxMode) :
    waitsOf (sendTrace cfg v m) = frameWaits cfg.settlePerCycle := by
  cases h : cfg.settlePerCycle <;>
    simp [sendTrace, preamble, shiftByte, msbFirst, clockBit, h, waitsOf, frameWaits, List.replicate]

/-! ### The waits and the duration of an operation -/

/-- The settle delay an operation other than SETUP makes after its frame (20_memory.md R52). -/
def settleAfter : Instr → List Nat
  | .clear | .home => [tSlow]
  | .displayOn | .displayOff | .cursorOn | .cursorOff | .blinkOn | .blinkOff => [tCmd]
  | .setEntryMode _ | .setFunctionSet _ => [tCmd]
  | _ => []

/-- Every operation but SETUP is one frame and its settle delay. -/
theorem opening_frame_settle {i : Instr} {s s1 : State} {events : List Event} (hi : i ≠ .setup)
    (h : opening i s = .ok (s1, events)) :
    ∃ v m, events = sendTrace s.cfg v m ++ (settleAfter i).map .wait := by
  cases i with
  | setup => exact absurd rfl hi
  | setCursor col row =>
    obtain ⟨off, _, hr⟩ | ⟨_, hr⟩ := s.rotRead_clampRow row <;>
      simp only [opening, hr, Except.ok.injEq, Prod.mk.injEq] at h <;>
      obtain ⟨-, rfl⟩ := h <;> exact ⟨_, _, (List.append_nil _).symm⟩
  | clear | home | displayOn | displayOff | cursorOn | cursorOff | blinkOn | blinkOff | setEntryMode | setFunctionSet =>
    cases h
    exact ⟨_, _, rfl⟩
  | _ =>
    cases h
    exact ⟨_, _, (List.append_nil _).symm⟩

/-- The waits of an operation, in order (44_clear_home_setup.md R142 for SETUP). -/
def operationWaits (settlePerCycle : Bool) (i : Instr) : List Nat :=
  if i = .setup then
    tPower :: [tCmd, tCmd, tSlow, tSlow, tCmd].flatMap fun n => frameWaits settlePerCycle ++ [n]
  else frameWaits settlePerCycle ++ settleAfter i

theorem waitsOf_settledCommand (cfg : Config) (v : Byte) (n : Nat) :
    waitsOf (settledCommand cfg v n) = frameWaits cfg.settlePerCycle ++ [n] := by
  rw [settledCommand, waitsOf_append, waitsOf_sendTrace]
  rfl

theorem waitsOf_setupTrace (cfg : Config) (dcr : Dcr) :
    waitsOf (setupTrace cfg dcr) = operationWaits cfg.settlePerCycle .setup := by
  have hpins : waitsOf pinSetup = [] := rfl
  simp [setupTrace, setupOpening, waitsOf_append, waitsOf_wait, waitsOf_settledCommand, hpins, operationWaits]

/-- An operation waits as its constructor and `SETTLE_PER_CYCLE` say, whatever the state (R196). -/
theorem opening_waits {i : Instr} {s s1 : State} {events : List Event} (h : opening i s = .ok (s1, events)) :
    waitsOf events = operationWaits s.cfg.settlePerCycle i := by
  by_cases hi : i = .setup
  · subst hi
    cases h
    exact waitsOf_setupTrace ..
  · obtain ⟨v, m, rfl⟩ := opening_frame_settle hi h
    rw [waitsOf_append, waitsOf_sendTrace, waitsOf_map_wait, operationWaits, if_neg hi]

/-- The table of R195 by its composition: SETUP's row, and for any other operation one frame and its settle delay. -/
theorem timing_eq (settlePerCycle : Bool) (i : Instr) :
    timing settlePerCycle i =
      if i = .setup then (if settlePerCycle then (372, 510600) else (327, 506100))
      else ((if settlePerCycle then 72 else 63) + (settleAfter i).length,
        (if settlePerCycle then 1020 else 120) + (settleAfter i).sum) := by
  cases i <;> cases settlePerCycle <;> rfl

theorem length_settledCommand (cfg : Config) (v : Byte) (n : Nat) :
    (settledCommand cfg v n).length = if cfg.settlePerCycle then 73 else 64 := by
  rw [settledCommand, List.length_append, length_sendTrace]
  split <;> rfl

theorem minTime_settledCommand (cfg : Config) (v : Byte) (n : Nat) :
    minTime (settledCommand cfg v n) = (if cfg.settlePerCycle then 1020 else 120) + n := by
  rw [settledCommand, minTime_append, minTime_sendTrace]
  simp

/-- SETUP is the pin setup, the power wait and five settled commands (44_clear_home_setup.md R142). -/
theorem setupTrace_timing (cfg : Config) (dcr : Dcr) :
    ((setupTrace cfg dcr).length, minTime (setupTrace cfg dcr)) = timing cfg.settlePerCycle .setup := by
  have hpins : minTime pinSetup = 0 := rfl
  have hlen : pinSetup.length = 6 := rfl
  cases h : cfg.settlePerCycle <;>
    simp [setupTrace, setupOpening, length_settledCommand, minTime_settledCommand, hpins, hlen, h, timing, tPower, tCmd,
      tSlow]

/-- An operation takes the events and the least time of R195. -/
theorem opening_timing {i : Instr} {s s1 : State} {events : List Event} (h : opening i s = .ok (s1, events)) :
    (events.length, minTime events) = timing s.cfg.settlePerCycle i := by
  by_cases hi : i = .setup
  · subst hi
    cases h
    exact setupTrace_timing ..
  · obtain ⟨v, m, rfl⟩ := opening_frame_settle hi h
    rw [timing_eq, if_neg hi, List.length_append, List.length_map, minTime_append, minTime_map_wait, length_sendTrace,
      minTime_sendTrace]

/-! ### The constructor alone decides -/

theorem eq_setup_iff_ctorIdx (i : Instr) : i = .setup ↔ i.ctorIdx = 0 := by
  cases i <;> simp [Instr.ctorIdx]

/-- The settle delay by the row of the opcode table (30_encoding.md R78), so without the operands. -/
theorem settleAfter_eq_ctorIdx (i : Instr) :
    settleAfter i =
      if i.ctorIdx = 1 ∨ i.ctorIdx = 2 then [tSlow]
      else if 3 ≤ i.ctorIdx ∧ i.ctorIdx ≤ 11 ∧ i.ctorIdx ≠ 9 then [tCmd] else [] := by
  cases i <;> rfl

section

variable {i i' : Instr} (h : i.ctorIdx = i'.ctorIdx) (settlePerCycle : Bool)
include h

theorem operationWaits_of_ctorIdx_eq : operationWaits settlePerCycle i = operationWaits settlePerCycle i' := by
  simp only [operationWaits, eq_setup_iff_ctorIdx, settleAfter_eq_ctorIdx, h]

theorem timing_of_ctorIdx_eq : timing settlePerCycle i = timing settlePerCycle i' := by
  simp only [timing_eq, eq_setup_iff_ctorIdx, settleAfter_eq_ctorIdx, h]

end

/-! ### The statements about time -/

/-- An idle block that answers a next state has emitted the trace of the opening. -/
theorem exec_idle_trace {i : Instr} {s t : State} (hs : s.seq = .idle) (h : exec i s = .next t) :
    ∃ s1 events, opening i s = .ok (s1, events) ∧ t.trace = s.trace ++ events := by
  obtain ⟨hb, -⟩ | ⟨-, -, s1, events, ho, rfl⟩ := exec_next h
  · exact absurd hs hb
  · refine ⟨s1, events, ho, ?_⟩
    rw [State.concluded_eq, ← opening_trace ho]
    rfl

/-- Settles O36: the events are those of the opening, whose count and least time are R195's. -/
theorem operationsTakeTheirStatedTime : Obligations.OperationsTakeTheirStatedTime := by
  intro s t i hs h
  obtain ⟨s1, events, ho, htrace⟩ := exec_idle_trace hs h
  exact ⟨events, htrace, opening_timing ho⟩

/-- The count and the waits of what an idle block adds to the trace. -/
theorem exec_idle_length_waits {i : Instr} {s t : State} {events : List Event} (hs : s.seq = .idle)
    (h : exec i s = .next t) (htrace : t.trace = s.trace ++ events) :
    events.length = (timing s.cfg.settlePerCycle i).1 ∧ waitsOf events = operationWaits s.cfg.settlePerCycle i := by
  obtain ⟨s1, opened, ho, htrace'⟩ := exec_idle_trace hs h
  obtain rfl : events = opened := List.append_cancel_left (htrace.symm.trans htrace')
  exact ⟨congrArg Prod.fst (opening_timing ho), opening_waits ho⟩

/-- Settles O37: count and waits are functions of `SETTLE_PER_CYCLE` and of the constructor. -/
theorem timingDoesNotDependOnData : Obligations.TimingDoesNotDependOnData := by
  intro s t s' t' i i' events events' hcfg hctor hs h htrace hs' h' htrace'
  obtain ⟨hlen, hwaits⟩ := exec_idle_length_waits hs h htrace
  obtain ⟨hlen', hwaits'⟩ := exec_idle_length_waits hs' h' htrace'
  rw [hlen, hlen', hwaits, hwaits', hcfg, timing_of_ctorIdx_eq hctor, operationWaits_of_ctorIdx_eq hctor]
  exact ⟨rfl, rfl⟩

/-! ### Waiting and the reset input -/

section

variable {run : Instr → State → Result} {s : State}

/-- Out of reset an idle block with no request waits (R180). -/
theorem stepWith_wait (hr : s.rst = false) (hs : s.seq = .idle) (hl : s.script = []) :
    stepWith run s = .next s.wait := by
  simp only [stepWith, hr, hs, hl]

/-- RST asserted holds an idle block in reset (R181). -/
theorem stepWith_holdReset (hr : s.rst = true) (hs : s.seq = .idle) : stepWith run s = .next s.holdReset := by
  simp only [stepWith, hr, hs]

/-- RST asserted during an operation is V7 (R181). -/
theorem stepWith_resetDuringOperation (hr : s.rst = true) (hs : s.seq ≠ .idle) :
    stepWith run s = .refused .resetDuringOperation := by
  cases h : s.seq with
  | idle => exact absurd h hs
  | busy i k events => simp only [stepWith, hr, h]

end

/-- Settles O13: the block waits. -/
theorem idleStepWaitsForTheHost : Obligations.IdleStepWaitsForTheHost := fun _ => stepWith_wait

/-- Settles O1: the values are those of `State.reset`, and from there the block waits. -/
theorem resetIsConstruction : Obligations.ResetIsConstruction :=
  ⟨rfl, rfl, rfl, rfl, rfl, rfl, State.reset.wait, stepWith_wait rfl rfl rfl, rfl, rfl, rfl, rfl, rfl, rfl⟩

/-- Settles O15: the block is held in reset when idle, and refuses V7 when busy. -/
theorem resetInputHoldsOrRefuses : Obligations.ResetInputHoldsOrRefuses :=
  ⟨fun s hr hs => ⟨s.holdReset, stepWith_holdReset hr hs, rfl, rfl, rfl, rfl, rfl, rfl, rfl⟩,
    fun _ _ _ _ hr hs => stepWith_resetDuringOperation hr (by simp [hs])⟩

end Sys2Proof.Machine
